-- ==== Sys2Proof/Word.lean ====
section
/-! DEFINITION. The word types of the TC32's register window, images and records. -/

namespace Sys2Proof

/-- One byte of the register window, of a record or of the wire. -/
abbrev Byte := BitVec 8

/-- A 16-bit field (epoch, low stamp, limit, period, …). -/
abbrev Half := BitVec 16

/-- A 32-bit counter (stamp counter, tick count) or set (BAND_PENDING). -/
abbrev Long := BitVec 32

/-- An address of the 128-address register window (R168). -/
abbrev RegAddr := BitVec 7

end Sys2Proof
end

