-- ==== Sys2Proof/Syntax.lean ====
section
/-! DEFINITION. The commands of the TC32: one constructor per row of spec/opcode_table.json, with the row's operands. -/

namespace Sys2Proof

/-- The two field segments (chapter 3). -/
inductive Segment where
  | a | b
  deriving DecidableEq, Repr

/-- The two lines of a segment. -/
inductive LineName where
  | scl | sda
  deriving DecidableEq, Repr

/-- A non-empty set of the lines of a segment. -/
inductive Lines where
  | scl | sda | both
  deriving DecidableEq, Repr

/-- What the start of a data byte of a read run outside QUEUE_DATA reads: the low byte of one of the three counters with a
snapshot latch (R170), or a register whose reading has no effect (R168; log 4). -/
inductive ReadByte where
  | stamp | fill | lossTotal | plain
  deriving DecidableEq, Repr

/-- Number of a Poll Table entry (R1). -/
abbrev EntryNo := Fin 32

/-- Number of a Target Table target (R13). -/
abbrev TargetNo := Fin 16

/-- What the field answers during one transaction: the acknowledge bit it gives to each byte the engine sends, in wire
order (true is an acknowledge), and the bytes it drives while the engine reads, in order. A position past the end of
either list is a line nobody drives, which reads high (log 11). -/
structure WireResponse where
  acks : List Bool
  reads : List Byte
  deriving DecidableEq, Repr

/-- How the bus clear of a segment runs (R63): how many stamp units SCL stays low after each release, one for each pulse and
then one for the STOP, and the level of SDA before each pulse, the first as CLEARING is entered (true is high). Past the
end of either list the line reads high at once, as one that nobody drives (log 11). -/
structure ClearRun where
  segment : Segment
  sclWaits : List Nat
  sda : List Bool
  deriving DecidableEq, Repr

/-- The lines as a failed bus clear leaves them (R63): for a line that still reads low, how many stamp units it has been low
without interruption by then; nothing for a line that reads high (log 14). -/
structure LeftLow where
  scl : Option Nat
  sda : Option Nat
  deriving DecidableEq, Repr

/-- What the field does about a transaction that a held line ends (R59): the acknowledges it had given, in wire order; where
the engine comes to form the STOP it attempts after a timeout on SCL, how many stamp units SDA stays low once the engine has
released it there; and, of the line that stays low in the end, how many stamp units it had been low without interruption
before the wait on it began, at the engine's release of it (log 12). -/
structure HeldTransfer where
  acks : List Bool
  sdaWait : Nat
  lowBefore : Nat
  deriving DecidableEq, Repr

/-- The commands. -/
inductive Instr where
  /-- COMMAND_BYTE: the first byte of a transaction completes (R168). -/
  | commandByte (b : Byte)
  /-- TRANSACTION_END: CSN rises (R168, R136, R172). -/
  | transactionEnd
  /-- SOFT_RESET: a CTRL write of a byte with bit 0 set (R172). -/
  | softReset (v : Byte)
  /-- SOFT_RESET_EFFECT: the requesting transaction ends (R20, R172). -/
  | softResetEffect
  /-- HARD_RESET: RESETN goes low, or power-on (R167). -/
  | hardReset
  /-- HARD_RESET_END: RESETN returns high with the supply up (R167). -/
  | hardResetEnd
  /-- QUEUE_DATA_BYTE_START: byte start of a data byte read from 1Ch (R133). -/
  | queueDataByteStart
  /-- QUEUE_DATA_BYTE_COMPLETE: the data byte being shifted out completes (R134, R135, R168). -/
  | queueDataByteComplete
  /-- SNAPSHOT_LATCH: the byte start of a data byte read outside QUEUE_DATA; a counter's low byte is latched (R168, R170).
  The table has no other row for such a byte (log 4). -/
  | snapshotLatch (c : ReadByte)
  /-- WATERMARK_LOW_WRITE: a write to 16h (R171). -/
  | watermarkLowWrite (v : Byte)
  /-- WATERMARK_HIGH_WRITE: a write to 17h (R171). -/
  | watermarkHighWrite (v : Byte)
  /-- INT_FLAGS_WRITE: a write to 08h (R162). -/
  | intFlagsWrite (v : Byte)
  /-- BAND_PENDING_WRITE: a write to one of 0Ch to 0Fh (R105, R162). -/
  | bandPendingWrite (v : Byte)
  /-- INT_ENABLE_WRITE: a write to 09h (R163). -/
  | intEnableWrite (v : Byte)
  /-- EVICT: a CTRL write, named for the overflow mode it selects (R127). -/
  | evict (v : Byte)
  /-- IRQ_PUSHPULL: a CTRL write, named for the IRQ drive type it selects (R164). -/
  | irqPushPull (v : Byte)
  /-- LIMIT_ACTIVE_HIGH: a CTRL write, named for the LIMIT polarity it selects (R165). -/
  | limitActiveHigh (v : Byte)
  /-- REGISTER_WRITE: a write to a register without behaviour of its own (R169). -/
  | registerWrite (v : Byte)
  /-- START: code 01h written to CMD (R149). -/
  | start
  /-- COLLECTOR_ENTER_RUNNING: both segments have finished preparing (R26). -/
  | collectorEnterRunning
  /-- STOP: code 02h written to CMD (R150). -/
  | stop
  /-- COLLECTOR_ENTER_STOPPED: the drain has ended (R28). -/
  | collectorEnterStopped
  /-- ENTRY_LOAD: code 03h written to CMD (R151). -/
  | entryLoad
  /-- ENTRY_FETCH: code 04h written to CMD (R12, R153). -/
  | entryFetch
  /-- TARGET_LOAD: code 05h written to CMD (R154). -/
  | targetLoad
  /-- TARGET_FETCH: code 06h written to CMD (R18, R153). -/
  | targetFetch
  /-- DEFERRED_LOAD_END: the poll that defers a load ends on the wire, and the load with it (R152). -/
  | deferredLoadEnd (x : Segment) (w : WireResponse)
  /-- POLL_NOW: code 07h written to CMD (R155). -/
  | pollNow
  /-- TARGET_RELEASE: code 08h written to CMD (R84, R156). -/
  | targetRelease
  /-- TARGET_HOLD: code 09h written to CMD (R83, R156). -/
  | targetHold
  /-- RAW_TRANSFER: code 0Ah written to CMD (R157). -/
  | rawTransfer
  /-- MARK: code 0Bh written to CMD (R130, R158). -/
  | mark
  /-- FLUSH: code 0Ch written to CMD (R129, R158). -/
  | flush
  /-- ABORT: code 0Fh written to CMD (R159). -/
  | abort
  /-- UNKNOWN: a code that names no command written to CMD (R148). -/
  | unknown (code : Byte)
  /-- TICK: the 10 microseconds pass that complete a tick (R21, R22). -/
  | tick
  /-- BACKOFF_EXPIRY of a target (R79). -/
  | backoffExpiry (t : TargetNo)
  /-- DUE_TIME_EVENT of an entry (R30). -/
  | dueTimeEvent (n : EntryNo)
  /-- ATTN_FALLING_EDGE: the filtered level of ATTN_x goes low (R39). -/
  | attnFallingEdge (x : Segment)
  /-- ATTN_REARM: the filtered level of ATTN_x returns high (R39). -/
  | attnRearm (x : Segment)
  /-- SELECTION_OCCASION of a segment's arbiter (R42, R43). -/
  | selectionOccasion (x : Segment)
  /-- BUS_FREE: lines that were low come to read high (R50, R52). -/
  | busFree (x : Segment) (lines : Lines)
  /-- BUS_STOP_SEEN: a STOP condition on the bus; the engine's own where it forms one between the two parts of a transaction
  (R51, R54). -/
  | busStopSeen (x : Segment)
  /-- FOREIGN_START_SEEN: a START condition of another master (R51, R54). -/
  | foreignStartSeen (x : Segment)
  /-- BUS_BUSY_TIMEOUT: the bus-free limit elapses in a wait on other masters (R51, R61). -/
  | busBusyTimeout (x : Segment)
  /-- BUS_CLEAR: a line has been low for the bus-free limit (R50, R52, R63). -/
  | busClear (x : Segment)
  /-- BUS_CLEAR_SUCCESS: the clear leaves both lines high (R63, R64). -/
  | busClearSuccess (r : ClearRun)
  /-- BUS_CLEAR_FAIL: the clear fails; the lines that still read low, and for how long (R50, R63, R65). -/
  | busClearFail (r : ClearRun) (left : LeftLow)
  /-- STRETCH_TIMEOUT: a line stays low for `waited` stamp units, from the release its wait is timed from, or from where
  the wait of the stop-between gap begins, until it reads high or, where it does not, until the engine gives up (R54, R59). -/
  | stretchTimeout (x : Segment) (line : LineName) (waited : Nat) (h : HeldTransfer)
  /-- ARBITRATION_LOSS: a bit the engine leaves high reads low, in multi-master mode (R61). -/
  | arbitrationLoss (x : Segment)
  /-- COMPLETION of a poll on the wire (R62). -/
  | completion (x : Segment) (w : WireResponse)
  /-- RAW_TRANSFER_COMPLETION of a raw transfer on the wire (R70). -/
  | rawTransferCompletion (x : Segment) (w : WireResponse)
  /-- STAMP_COUNTER_ADVANCE: 10 microseconds have passed (R21). -/
  | stampCounterAdvance
  /-- TRANSACTION_OPEN: CSN falls (R168). -/
  | transactionOpen
  /-- LINE_FALL: a line of a segment falls low (R50). -/
  | lineFall (x : Segment) (line : LineName)
  deriving DecidableEq, Repr

end Sys2Proof
end

