-- ==== Sys2Proof/Decode.lean ====
section
/-! DEFINITION. Words that spell a command. The TC32 is a block: no row of spec/opcode_table.json has bits. -/

namespace Sys2Proof

/-- The command a word spells by the table's bits: none, since every row's "fields" is empty (log 24). -/
def decodeTableWord (_nbits _w : Nat) : Option Instr := none

end Sys2Proof
end

