-- ==== Sys2Proof/Config.lean ====
section
/-! DEFINITION. What the part fixes once (identity, capacities, limits) and the one value the manual leaves open. -/

namespace Sys2Proof.Config

/-- DEVICE_ID, register 00h (section 10.4). -/
def deviceId : Byte := 0xC7#8

/-- REVISION, register 01h (section 10.4). -/
def revision : Byte := 0x12#8

/-- Bytes of record storage (R110). -/
def queueCapacity : Nat := 2048

/-- Highest WATERMARK (R141, R171). -/
def watermarkMax : Nat := 2047

/-- Where the pending loss count and a Gap record's lost count saturate (R113, R120). -/
def lossCountMax : Nat := 65535

/-- Where LOSS_TOTAL saturates (R120). -/
def lossTotalMax : Nat := 4294967295

/-- Where an entry's overrun count saturates (R32). -/
def overrunMax : Nat := 15

/-- Requests a One-Shot List holds at most (R36). -/
def oneShotMax : Nat := 4

/-- Stamp units in one tick, that is in 1 ms (R21, section 5.4). -/
def unitsPerTick : Nat := 100

/-- Clock pulses of a bus clear at most (R63). -/
def clearPulses : Nat := 9

/-- FREE VALUE (log 16). How long, in stamp units, a line that reads low when a hard reset ends has been low:
the Timebase does not count during the reset (R167), and no rule gives the moment of such a fall. -/
opaque lineAgeAtRelease : Nat → Nat

end Sys2Proof.Config
end

