-- ==== Sys2Proof/Machine/State.lean ====
section
/-! DEFINITION. The state of the TC32 as plain data, its value after reset, and the reasons a step can stop. -/

namespace Sys2Proof.Machine

/-- No command of this block ends in a fault: errors of the field are outcomes of the work (R57 to R65), and a command
the part turns away gets a result code (R147). So there is no constructor (log 26; safe). -/
inductive Fault where
  deriving DecidableEq, Repr

/-- Refusals. -/
inductive Refusal where
  /-- Raised by exec's arm of a command that has no meaning yet; no arm raises it (safe). -/
  | notModelled (mnemonic : String)
  deriving DecidableEq, Repr

/-! ### Poll Table (chapter 1) -/

/-- Report modes (R5). -/
inductive ReportMode where
  | always | onChange | mean | silent
  deriving DecidableEq, Repr

/-- Classification of an entry against its band (R100). -/
inductive Band where
  | normal | high | low
  deriving DecidableEq, Repr

/-- An entry's definition (R2 to R6). Limits, deadband and hysteresis are the 16-bit fields as loaded; the entry's
signedness gives the limits their meaning (R92). -/
structure EntryDef where
  target : TargetNo
  pointer : Byte
  pointerPresent : Bool
  length : Fin 9
  tier : BitVec 2
  period : Half
  phase : Half
  attention : Bool
  wide : Bool
  signed : Bool
  highFirst : Bool
  offset : Fin 8
  mode : ReportMode
  meanCode : BitVec 2
  deadband : Half
  bandEnable : Bool
  bandRecord : Bool
  driveLimit : Bool
  confirm : BitVec 4
  lowLimit : Half
  highLimit : Half
  hysteresis : Half
  deriving DecidableEq, Repr

/-- Every definition field 0: the definition of an EMPTY entry (R1, R19). -/
def EntryDef.zero : EntryDef where
  target := 0
  pointer := 0
  pointerPresent := false
  length := 0
  tier := 0
  period := 0
  phase := 0
  attention := false
  wide := false
  signed := false
  highFirst := false
  offset := 0
  mode := .always
  meanCode := 0
  deadband := 0
  bandEnable := false
  bandRecord := false
  driveLimit := false
  confirm := 0
  lowLimit := 0
  highLimit := 0
  hysteresis := 0

/-- Class of a Due List member; the scheduled class carries the join due tick (R34). -/
inductive DueClass where
  | attention
  | scheduled (joinTick : Long)
  deriving DecidableEq, Repr

/-- One entry: definition and live fields (R8). `due` is the entry's membership of its segment's Due List (log 20); a
clear run is `none` (R100). -/
structure Entry where
  defined : Bool
  d : EntryDef
  nextDue : Long
  overrun : Nat
  stable : Band
  run : Option (Band × Nat)
  meanSum : Int
  meanHeld : Nat
  last : Half
  lastExists : Bool
  due : Option DueClass
  inFlight : Bool
  deriving DecidableEq, Repr

/-- An EMPTY entry with its live fields reset (R1, R9, R19). -/
def Entry.empty : Entry where
  defined := false
  d := EntryDef.zero
  nextDue := 0
  overrun := 0
  stable := .normal
  run := none
  meanSum := 0
  meanHeld := 0
  last := 0
  lastExists := false
  due := none
  inFlight := false

/-! ### Target Table and Health Unit (chapters 1 and 4) -/

/-- Health states (R73). -/
inductive Health where
  | active | suspect | quarantined | probing | held
  deriving DecidableEq, Repr

/-- A target's definition (R13, R14). -/
structure TargetDef where
  enabled : Bool
  segment : Segment
  address : BitVec 7
  check : Bool
  stopBetween : Bool
  threshold : BitVec 4
  baseBackoff : Half
  maxBackoff : Half
  deriving DecidableEq, Repr

/-- A disabled target on segment A with every field 0 (R19). -/
def TargetDef.zero : TargetDef where
  enabled := false
  segment := .a
  address := 0
  check := false
  stopBetween := false
  threshold := 0
  baseBackoff := 0
  maxBackoff := 0

/-- One target: definition and the four health fields (R15). -/
structure Target where
  d : TargetDef
  health : Health
  failures : Nat
  remaining : Nat
  current : Nat
  deriving DecidableEq, Repr

/-- A target after a hard reset (R19, R88). -/
def Target.empty : Target where
  d := TargetDef.zero
  health := .active
  failures := 0
  remaining := 0
  current := 0

/-! ### Segment Engines (chapter 3) -/

/-- Cause of a poll: the rank it was chosen from (R44, R93). -/
inductive Cause where
  | scheduled | attention | oneShot
  deriving DecidableEq, Repr

/-- A poll as handed over by the arbiter (R44). -/
structure PollWork where
  entry : EntryNo
  target : TargetNo
  address : BitVec 7
  pointer : Byte
  pointerPresent : Bool
  length : Fin 9
  check : Bool
  stopBetween : Bool
  cause : Cause
  probe : Bool
  deriving DecidableEq, Repr

/-- The captured parameters of a raw transfer (R68); `write` holds the write-count bytes. -/
structure RawParams where
  segment : Segment
  address : BitVec 7
  write : List Byte
  readCount : Fin 17
  check : Bool
  stopBetween : Bool
  deriving DecidableEq, Repr

/-- An engine's current work (R46). -/
inductive Work where
  | poll (p : PollWork)
  | raw (p : RawParams)
  deriving DecidableEq, Repr

/-- Engine states shown in STATE (R46). -/
inductive EngineState where
  | idle | busy | clearing | faulted
  deriving DecidableEq, Repr

/-- What a BUSY engine is doing: the free check (R50), the transaction on the wire, the wait after an arbitration loss
(R61), the second part of a stop-between transaction once its intermediate STOP has been seen, from the wait for both
lines on (R54; log 32); or, in IDLE or FAULTED, the bus check of START that has not ended (R52). -/
inductive Stage where
  | none | freeCheck | onWire | stopGap | arbWait | busCheck
  deriving DecidableEq, Repr

/-- The latched configuration (R48); limits in milliseconds, never 0. -/
structure Latched where
  fast : Bool
  multiMaster : Bool
  stretch : Nat
  busFree : Nat
  deriving DecidableEq, Repr

/-- A Segment Engine (R46). `waitSince` is the moment the present wait on other masters (R51, R61) or bus clear (R63)
began. -/
structure Engine where
  state : EngineState
  work : Option Work
  stage : Stage
  retries : Nat
  latched : Latched
  busBusy : Bool
  received : List Byte
  waitSince : Nat
  deriving DecidableEq, Repr

/-- The reset values of R46 and R48. -/
def Latched.reset : Latched where
  fast := false
  multiMaster := false
  stretch := 25
  busFree := 35

/-- An engine after either reset (R46). -/
def Engine.reset : Engine where
  state := .idle
  work := none
  stage := .none
  retries := 0
  latched := Latched.reset
  busBusy := false
  received := []
  waitSince := 0

/-- Level of a line and the moment, in elapsed units, at which it last fell (R50). The moment is an integer: it may lie
before the last reset, which restarts the count of elapsed time (log 17). -/
structure LineLevel where
  high : Bool
  fell : Int
  deriving DecidableEq, Repr

/-- Everything that belongs to one segment: its configuration registers (R48), engine, One-Shot List (R36), pending raw
transfer (R45), attention enable, filtered level and edge detector (R39, R166), and lines (R50). -/
structure Seg where
  cfgFast : Bool
  cfgMulti : Bool
  cfgStretch : Byte
  cfgBusFree : Byte
  engine : Engine
  oneShot : List EntryNo
  rawPending : Bool
  attnEnable : Bool
  attnHigh : Bool
  attnArmed : Bool
  scl : LineLevel
  sda : LineLevel
  deriving DecidableEq, Repr

/-- A segment right after reset with its inputs high (R29, R46, R48; the levels: log 18). -/
def Seg.reset : Seg where
  cfgFast := false
  cfgMulti := false
  cfgStretch := 0x19#8
  cfgBusFree := 0x23#8
  engine := Engine.reset
  oneShot := []
  rawPending := false
  attnEnable := false
  attnHigh := true
  attnArmed := true
  scl := { high := true, fell := 0 }
  sda := { high := true, fell := 0 }

/-! ### Record Queue and Read Port (chapters 6, 7 and 10) -/

/-- Fault record codes (R112). -/
inductive FaultCode where
  | addrNack | dataNack | stretchTimeout | checkFail | arbLost
  | busStuck | dropped | restored | released | held
  deriving DecidableEq, Repr

/-- The fields of a data record but its low stamp, which the queue supplies at admission (R112, R115). A `none` target or
entry is FFh, a `none` health part is 7. -/
inductive Body where
  | sample (entry : EntryNo) (cause : Cause) (reduced probe : Bool) (overrun : Nat) (data : List Byte)
  | fault (target : Option TargetNo) (entry : Option EntryNo) (code : FaultCode) (health : Option Health) (count : Nat)
  | band (entry : EntryNo) (fromState toState : Band) (value : Half)
  | mark (tag : Byte)
  deriving DecidableEq, Repr

/-- A record as held: a data record with its low stamp, or a bookkeeping record (R111, R113). -/
inductive Record where
  | data (body : Body) (stamp : Half)
  | time (epoch : Half)
  | gap (lost : Nat) (epoch : Half)
  deriving DecidableEq, Repr

/-- The Record Queue: records oldest first, epoch bookkeeping (`none` is invalid) and loss accounting (chapter 6). -/
structure Queue where
  records : List Record
  epochWritten : Option Half
  headEpoch : Option Half
  pendingLoss : Nat
  lossTotal : Nat
  deriving DecidableEq, Repr

/-- The queue after either reset (R131). -/
def Queue.reset : Queue where
  records := []
  epochWritten := none
  headEpoch := none
  pendingLoss := 0
  lossTotal := 0

/-- The Read Port (R132). -/
structure ReadPort where
  cursor : Nat
  pinned : Bool
  deriving DecidableEq, Repr

/-- The Read Port after either reset (R132). -/
def ReadPort.reset : ReadPort where
  cursor := 0
  pinned := false

/-! ### Command Unit (chapter 8) -/

/-- Where a raw transfer taken by the Command Unit stands: wait reasons 05h, 06h and 07h (R146); `aborted` is the
aborted indication of R144. -/
inductive RawStage where
  | pending | onSegment | aborted
  deriving DecidableEq, Repr

/-- The wait reasons (R146), each with what R144 holds for it: the captured candidate of a deferred load (`none` is the
candidate of length 0, which makes the entry EMPTY), or the captured raw parameters. -/
inductive Wait where
  | start
  | stop
  | entryLoad (n : EntryNo) (candidate : Option EntryDef)
  | targetLoad (t : TargetNo) (candidate : TargetDef)
  | raw (stage : RawStage) (params : RawParams)
  deriving DecidableEq, Repr

/-- A command code with its argument (R144). -/
structure Command where
  code : Byte
  arg : Byte
  deriving DecidableEq, Repr

/-- The Command Unit (R144): READY when `wait` is none, BUSY otherwise. `result` and `detail` are those of the last
completion; what the host reads while BUSY is in `readReg` (R146). -/
structure CommandUnit where
  wait : Option Wait
  inProgress : Option Command
  taken : Option Command
  cmd : Byte
  arg : Byte
  result : Byte
  detail : Byte
  deriving DecidableEq, Repr

/-- The Command Unit after either reset (R144). -/
def CommandUnit.reset : CommandUnit where
  wait := none
  inProgress := none
  taken := none
  cmd := 0
  arg := 0
  result := 0
  detail := 0

/-! ### Host Port and registers (chapters 9 and 10) -/

/-- Framing state; the direction is in the run (R168). -/
inductive Framing where
  | noTransaction | awaitingCommand | readRun | writeRun
  deriving DecidableEq, Repr

/-- Where a byte being shifted out comes from: a register other than QUEUE_DATA (R168), the Empty marker, or the head
record (R133). -/
inductive ByteSource where
  | register | emptyMarker | record
  deriving DecidableEq, Repr

/-- The data byte of a read run being shifted out: its value, fixed at its byte start, and its source (R133, R168). -/
structure ByteOut where
  value : Byte
  source : ByteSource
  deriving DecidableEq, Repr

/-- The Host Port (R168, R170 to R172). -/
structure HostPort where
  csnLow : Bool
  framing : Framing
  pointer : RegAddr
  burstOpen : Bool
  byteOut : Option ByteOut
  resetRequested : Bool
  stampLatch : Long
  fillLatch : Half
  lossLatch : Long
  heldLow : Byte
  deriving DecidableEq, Repr

/-- The Host Port after either reset, CSN high (R168, R170, R171). -/
def HostPort.reset : HostPort where
  csnLow := false
  framing := .noTransaction
  pointer := 0
  burstOpen := false
  byteOut := none
  resetRequested := false
  stampLatch := 0
  fillLatch := 0
  lossLatch := 0
  heldLow := 0

/-- The CTRL bits that are held (section 10.4). -/
structure Ctrl where
  evict : Bool
  irqPushPull : Bool
  limitActiveHigh : Bool
  deriving DecidableEq, Repr

/-- CTRL after either reset: 00h. -/
def Ctrl.reset : Ctrl where
  evict := false
  irqPushPull := false
  limitActiveHigh := false

/-- The five sticky flags (R161). -/
structure Sticky where
  loss : Bool
  health : Bool
  cmd : Bool
  segerr : Bool
  cmdref : Bool
  deriving DecidableEq, Repr

/-- All sticky flags clear. -/
def Sticky.reset : Sticky where
  loss := false
  health := false
  cmd := false
  segerr := false
  cmdref := false

/-- Collector states (R24). -/
inductive Collector where
  | stopped | running | stopping
  deriving DecidableEq, Repr

/-- The storage registers by window address (R169): a list in canonical form, an unlisted address reads 00h. -/
abbrev Memory := List Host.Cell

/-! ### The whole machine -/

/-- The state of the TC32 and the queue of commands that wait for it. -/
@[ext]
structure State where
  /-- Elapsed 10 microsecond units, the one count of the Timebase: the stamp counter and the tick count derive from it
  (R21). -/
  elapsed : Nat
  /-- A hard reset is in force (R167). -/
  inReset : Bool
  host : HostPort
  ctrl : Ctrl
  /-- WATERMARK in effect (R141). -/
  watermark : Nat
  cu : CommandUnit
  sticky : Sticky
  intEnable : Byte
  bandPending : Long
  /-- The LIMIT condition (R106). -/
  limit : Bool
  collector : Collector
  entries : Vector Entry 32
  targets : Vector Target 16
  segA : Seg
  segB : Seg
  queue : Queue
  port : ReadPort
  mem : Memory
  /-- The model's own: commands waiting, oldest first. -/
  pending : List Instr
  /-- The model's own: counter the free value of log 16 is drawn with. -/
  freeIndex : Nat
  deriving DecidableEq, Repr

/-- The machine right after a hard reset has ended, with every input at its undriven level and no command waiting
(R19, R29, R46, R88, R108, R131, R132, R144, section 10.4; the input levels: log 18). -/
def State.reset : State where
  elapsed := 0
  inReset := false
  host := HostPort.reset
  ctrl := Ctrl.reset
  watermark := 0
  cu := CommandUnit.reset
  sticky := Sticky.reset
  intEnable := 0
  bandPending := 0
  limit := false
  collector := .stopped
  entries := Vector.replicate 32 Entry.empty
  targets := Vector.replicate 16 Target.empty
  segA := Seg.reset
  segB := Seg.reset
  queue := Queue.reset
  port := ReadPort.reset
  mem := []
  pending := []
  freeIndex := 0

end Sys2Proof.Machine
end

