-- ==== Sys2Proof/Machine/Operands.lean ====
section
/-! DEFINITION. Operand and byte formats: fields of bytes, signedness, the entry and target images (R174, R175), the raw
registers (R173), the CRC-8 check byte (R55), and the byte format of records (R176). -/

namespace Sys2Proof.Machine

/-! ### Bytes and signed values -/

/-- Low byte of a 16-bit field; multi-byte fields are little-endian (section 5.2). -/
def loByte (h : Half) : Byte := h.extractLsb' 0 8

/-- High byte of a 16-bit field. -/
def hiByte (h : Half) : Byte := h.extractLsb' 8 8

/-- The 16-bit field with this low and high byte. -/
def joinBytes (lo hi : Byte) : Half := hi ++ lo

/-- Byte `i` of a 32-bit register, byte 0 the lowest. -/
def longByte (w : Long) (i : Nat) : Byte := w.extractLsb' (8 * i) 8

/-- A 16-bit field read in a signedness (R92). -/
def fieldInt (signed : Bool) (h : Half) : Int := if signed then h.toInt else (h.toNat : Int)

/-- The 16-bit field that holds a value (R93, R103). -/
def valueField (v : Int) : Half := BitVec.ofInt 16 v

/-- Lowest and highest 16-bit value of a signedness (R101). -/
def rangeLow (signed : Bool) : Int := if signed then -32768 else 0

/-- See `rangeLow`. -/
def rangeHigh (signed : Bool) : Int := if signed then 32767 else 65535

/-! ### Codes of named values -/

/-- Stable state codes (R103, R174). -/
def Band.code : Band → BitVec 2
  | .normal => 0
  | .high => 1
  | .low => 2

/-- Run direction code of the entry image: 0 none, 1 HIGH, 2 LOW, 3 NORMAL (R174). -/
def runDirectionCode : Option (Band × Nat) → BitVec 2
  | none => 0
  | some (.high, _) => 1
  | some (.low, _) => 2
  | some (.normal, _) => 3

/-- Run count, 0 when the run is clear (R100). -/
def runCount : Option (Band × Nat) → Nat
  | none => 0
  | some (_, k) => k

/-- Report mode codes (R174). -/
def ReportMode.code : ReportMode → BitVec 2
  | .always => 0
  | .onChange => 1
  | .mean => 2
  | .silent => 3

/-- Report mode of a code (R174). -/
def reportModeOf (c : BitVec 2) : ReportMode :=
  if c = 0 then .always else if c = 1 then .onChange else if c = 2 then .mean else .silent

/-- The mean count N of a mean code: 2, 4, 8 or 16 (R174). -/
def meanCount (c : BitVec 2) : Nat := 2 ^ (c.toNat + 1)

/-- Health codes (R73). -/
def Health.code : Health → BitVec 3
  | .active => 0
  | .suspect => 1
  | .quarantined => 2
  | .probing => 3
  | .held => 4

/-- Segment code: 0 for A, 1 for B. -/
def segmentCode : Segment → BitVec 1
  | .a => 0
  | .b => 1

/-- Segment of a code. -/
def segmentOf (c : Bool) : Segment := if c then .b else .a

/-- Collector codes of STATE (section 10.4). -/
def Collector.code : Collector → BitVec 2
  | .stopped => 0
  | .running => 1
  | .stopping => 2

/-- Engine codes of STATE (section 10.4). -/
def EngineState.code : EngineState → BitVec 2
  | .idle => 0
  | .busy => 1
  | .clearing => 2
  | .faulted => 3

/-- Cause codes of the Sample info byte (R176). -/
def Cause.code : Cause → BitVec 2
  | .scheduled => 0
  | .attention => 1
  | .oneShot => 2

/-- Fault record codes (R112). -/
def FaultCode.code : FaultCode → Byte
  | .addrNack => 1
  | .dataNack => 2
  | .stretchTimeout => 3
  | .checkFail => 4
  | .arbLost => 5
  | .busStuck => 6
  | .dropped => 7
  | .restored => 8
  | .released => 9
  | .held => 10

/-! ### Entry image (R174) -/

/-- Offset 2: length, pointer present, attention, tier. -/
def EntryDef.shapeByte (d : EntryDef) : Byte :=
  d.tier ++ BitVec.ofBool d.attention ++ BitVec.ofBool d.pointerPresent ++ BitVec.ofNat 4 d.length.val

/-- Offset 3: report mode, mean code, wide, signed, high first. -/
def EntryDef.formatByte (d : EntryDef) : Byte :=
  0#1 ++ BitVec.ofBool d.highFirst ++ BitVec.ofBool d.signed ++ BitVec.ofBool d.wide ++ d.meanCode ++ d.mode.code

/-- Offset 5: band enable, band record, drive LIMIT, confirm count. -/
def EntryDef.bandByte (d : EntryDef) : Byte :=
  d.confirm ++ 0#1 ++ BitVec.ofBool d.driveLimit ++ BitVec.ofBool d.bandRecord ++ BitVec.ofBool d.bandEnable

/-- Offsets 0 to 17 of the entry image: the definition (R174). -/
def EntryDef.bytes (d : EntryDef) : List Byte :=
  [BitVec.ofNat 8 d.target.val, d.pointer, d.shapeByte, d.formatByte, BitVec.ofNat 8 d.offset.val, d.bandByte,
   loByte d.period, hiByte d.period, loByte d.phase, hiByte d.phase, loByte d.deadband, hiByte d.deadband,
   loByte d.lowLimit, hiByte d.lowLimit, loByte d.highLimit, hiByte d.highLimit, loByte d.hysteresis, hiByte d.hysteresis]

/-- Offsets 18 to 25 of the entry image: live bytes, and the last byte 0 (R12, R174). -/
def Entry.liveBytes (e : Entry) (inOneShot : Bool) (ticksToDue : Half) : List Byte :=
  [BitVec.ofNat 4 (runCount e.run) ++ runDirectionCode e.run ++ e.stable.code,
   BitVec.ofNat 4 e.overrun ++ BitVec.ofBool e.inFlight ++ BitVec.ofBool inOneShot ++ BitVec.ofBool e.due.isSome
     ++ BitVec.ofBool e.defined,
   loByte e.last, hiByte e.last, loByte ticksToDue, hiByte ticksToDue, BitVec.ofNat 8 e.meanHeld, 0#8]

/-- The definition an image encodes, `img k` being the byte at offset k; meaningful once `entryCode` finds no fault. -/
def entryDefOf (img : Nat → Byte) : EntryDef where
  target := Fin.ofNat 16 (img 0).toNat
  pointer := img 1
  pointerPresent := (img 2).getLsbD 4
  length := Fin.ofNat 9 ((img 2).extractLsb' 0 4).toNat
  tier := (img 2).extractLsb' 6 2
  period := joinBytes (img 6) (img 7)
  phase := joinBytes (img 8) (img 9)
  attention := (img 2).getLsbD 5
  wide := (img 3).getLsbD 4
  signed := (img 3).getLsbD 5
  highFirst := (img 3).getLsbD 6
  offset := Fin.ofNat 8 (img 4).toNat
  mode := reportModeOf ((img 3).extractLsb' 0 2)
  meanCode := (img 3).extractLsb' 2 2
  deadband := joinBytes (img 10) (img 11)
  bandEnable := (img 5).getLsbD 0
  bandRecord := (img 5).getLsbD 1
  driveLimit := (img 5).getLsbD 2
  confirm := (img 5).extractLsb' 4 4
  lowLimit := joinBytes (img 12) (img 13)
  highLimit := joinBytes (img 14) (img 15)
  hysteresis := joinBytes (img 16) (img 17)

/-- Value width in bytes (R4). -/
def widthBytes (wide : Bool) : Nat := if wide then 2 else 1

/-- The length field of an entry image, 0 to 15 (R174). -/
def imageLength (img : Nat → Byte) : Nat := ((img 2).extractLsb' 0 4).toNat

/-- The lowest field code of R10 that an image of nonzero length breaks, 0 when none holds. -/
def entryCode (img : Nat → Byte) : Byte :=
  let d := entryDefOf img
  if 15 < (img 0).toNat then 1
  else if 8 < imageLength img then 2
  else if imageLength img < (img 4).toNat + widthBytes d.wide then 3
  else if d.period = 0 ∧ d.tier ≠ 0 then 4
  else if d.bandEnable ∧ fieldInt d.signed d.highLimit < fieldInt d.signed d.lowLimit then 5
  else if d.bandEnable ∧ d.confirm = 0 then 6
  else 0

/-! ### Target image (R175) -/

/-- Offsets 0 to 5 of the target image: the definition. -/
def TargetDef.bytes (d : TargetDef) : List Byte :=
  [BitVec.ofBool d.enabled ++ d.address,
   d.threshold ++ 0#1 ++ BitVec.ofBool d.stopBetween ++ BitVec.ofBool d.check ++ segmentCode d.segment,
   loByte d.baseBackoff, hiByte d.baseBackoff, loByte d.maxBackoff, hiByte d.maxBackoff]

/-- Offsets 6 to 9: health, failure count, backoff remaining. -/
def Target.liveBytes (t : Target) : List Byte :=
  [t.health.code.setWidth 8, BitVec.ofNat 8 t.failures,
   loByte (BitVec.ofNat 16 t.remaining), hiByte (BitVec.ofNat 16 t.remaining)]

/-- The definition a target image encodes (R175). -/
def targetDefOf (img : Nat → Byte) : TargetDef where
  enabled := (img 0).getLsbD 7
  segment := segmentOf ((img 1).getLsbD 0)
  address := (img 0).extractLsb' 0 7
  check := (img 1).getLsbD 1
  stopBetween := (img 1).getLsbD 2
  threshold := (img 1).extractLsb' 4 4
  baseBackoff := joinBytes (img 2) (img 3)
  maxBackoff := joinBytes (img 4) (img 5)

/-- The lowest field code of R16 that a candidate breaks, 0 when none holds; `clash` says that another enabled target
has the same segment and address. A disabled candidate passes without checks. -/
def targetCode (d : TargetDef) (clash : Bool) : Byte :=
  if !d.enabled then 0
  else if d.address < 0x08#7 ∨ 0x77#7 < d.address then 1
  else if d.threshold = 0 then 2
  else if d.baseBackoff < 10 then 3
  else if d.maxBackoff < d.baseBackoff then 4
  else if clash then 5
  else 0

/-! ### The wire: transactions and the check byte (R53 to R60, R68, R69) -/

/-- One shift of the CRC-8 register: 07h is exclusive-ORed after a shift in which a 1 left the top place (R55). -/
def crcShift (r : Byte) : Byte := if r.msb then (r <<< 1) ^^^ 0x07#8 else r <<< 1

/-- One byte into the CRC-8 register: exclusive-OR, then eight shifts (R55). -/
def crcByte (r b : Byte) : Byte := (List.range 8).foldl (fun acc _ => crcShift acc) (r ^^^ b)

/-- The CRC-8 of bytes in wire order, initial value 00h (R55). -/
def crc8 (bs : List Byte) : Byte := bs.foldl crcByte 0x00#8

/-- What a transaction sends and reads, poll or raw transfer alike: the bytes written after the write-direction address,
the number of data bytes read, whether a check byte follows them, and the stop-between flag. -/
structure Xfer where
  address : BitVec 7
  writes : List Byte
  reads : Nat
  check : Bool
  stopBetween : Bool
  deriving DecidableEq, Repr

/-- An address byte: the 7-bit address followed by the direction bit, 1 for read (R53). -/
def addressByte (address : BitVec 7) (read : Bool) : Byte := address ++ BitVec.ofBool read

/-- The write phase is present when bytes are written, and in the address-only form (R53, R54, R68). -/
def Xfer.hasWrite (x : Xfer) : Bool := !x.writes.isEmpty || x.reads == 0

/-- The read phase is present when bytes are read. -/
def Xfer.hasRead (x : Xfer) : Bool := x.reads != 0

/-- A check byte has effect only when bytes are read (R68). -/
def Xfer.checked (x : Xfer) : Bool := x.check && x.hasRead

/-- A STOP and a new START stand between the write phase and the read phase: the stop-between flag has effect only when
both are there (R54, R68). -/
def Xfer.hasGap (x : Xfer) : Bool := x.stopBetween && x.hasWrite && x.hasRead

/-- How a piece of work ends (R62). -/
inductive WorkOutcome where
  | success | addrNack | dataNack | stretchTimeout | checkFail | arbLost | busStuck
  deriving DecidableEq, Repr

/-- The bytes the engine sends, in wire order, each with the error its not-acknowledge gives (R57, R58). -/
def Xfer.sent (x : Xfer) : List (Byte × WorkOutcome) :=
  (if x.hasWrite then (addressByte x.address false, .addrNack) :: x.writes.map (·, .dataNack) else [])
  ++ (if x.hasRead then [(addressByte x.address true, .addrNack)] else [])

/-- The error of the first byte sent that was not acknowledged. `missing` is how a byte past the given acknowledges
counts: as acknowledged when the transaction has not got there, as not acknowledged (a released line reads high) when
it ran to its end (log 11). -/
def firstNack (missing : Bool) : List (Byte × WorkOutcome) → List Bool → Option WorkOutcome
  | [], _ => none
  | (_, e) :: rest, [] => if missing then firstNack missing rest [] else some e
  | (_, e) :: rest, ack :: acks => if ack then firstNack missing rest acks else some e

/-- The bytes the engine takes while reading: the data bytes, then the check byte when there is one. A byte nobody
drives reads FFh (log 11). -/
def Xfer.readBytes (x : Xfer) (reads : List Byte) : List Byte :=
  (List.range (x.reads + (if x.checked then 1 else 0))).map fun i => reads.getD i 0xFF#8

/-- What the engine has received at the end of the transaction: nothing when a not-acknowledge ended it (R57, R58). -/
def Xfer.receive (x : Xfer) (w : WireResponse) : List Byte :=
  match firstNack false x.sent w.acks with
  | some _ => []
  | none => x.readBytes w.reads

/-- The check byte R55 computes over the address bytes, the bytes written and the data bytes. -/
def Xfer.expectedCheck (x : Xfer) (received : List Byte) : Byte :=
  crc8 (x.sent.map (·.1) ++ received.take x.reads)

/-- The outcome of a transaction that ran to its STOP (R56 to R58, R60). -/
def Xfer.outcome (x : Xfer) (acks : List Bool) (received : List Byte) : WorkOutcome :=
  match firstNack false x.sent acks with
  | some e => e
  | none =>
    if x.checked && received.getD x.reads 0 != x.expectedCheck received then .checkFail else .success

/-- The transaction of a piece of work: a poll with pointer present writes the pointer (R53, R54), a raw transfer its
write bytes (R68). -/
def Work.xfer : Work → Xfer
  | .poll p =>
    { address := p.address, writes := if p.pointerPresent then [p.pointer] else [], reads := p.length.val, check := p.check
      stopBetween := p.stopBetween }
  | .raw r =>
    { address := r.address, writes := r.write, reads := r.readCount.val, check := r.check
      stopBetween := r.stopBetween }

/-- The pulses a bus clear gives: one for each look at SDA that finds it low, nine at most (R63). -/
def pulsesGiven (r : ClearRun) : Nat := min Config.clearPulses (r.sda.takeWhile (!·)).length

/-- The wait on SCL that fails a bus clear: the first, after any pulse or before the STOP, to reach a limit in stamp units
(R63). -/
def heldWait (r : ClearRun) (limit : Nat) : Option Nat :=
  ((List.range (pulsesGiven r + 1)).map fun i => r.sclWaits.getD i 0).find? fun k => decide (limit ≤ k)

/-- A bus clear comes to the end of its STOP: no wait on SCL fails it (R63). -/
def reachesStop (r : ClearRun) (limit : Nat) : Bool := (heldWait r limit).isNone

/-- A bus clear finds SCL high at its first release (R63). -/
def sclRose (r : ClearRun) (limit : Nat) : Bool := decide (r.sclWaits.getD 0 0 < limit)

/-- A bus clear finds SDA high when it looks at it: before the pulses are spent, with no pulse's wait failing it (R63). -/
def sdaRose (r : ClearRun) (limit : Nat) : Bool :=
  decide (pulsesGiven r < Config.clearPulses)
    && (List.range (pulsesGiven r)).all fun i => decide (r.sclWaits.getD i 0 < limit)

/-- Whether a poll outcome is a counted failure of the target (R62, R74). -/
def WorkOutcome.counted : WorkOutcome → Bool
  | .addrNack => true
  | .dataNack => true
  | .stretchTimeout => true
  | .checkFail => true
  | .success => false
  | .arbLost => false
  | .busStuck => false

/-- The raw result of an outcome (R70). -/
def WorkOutcome.rawResult : WorkOutcome → Byte
  | .success => 0x01
  | .addrNack => 0x10
  | .dataNack => 0x11
  | .stretchTimeout => 0x12
  | .checkFail => 0x13
  | .arbLost => 0x14
  | .busStuck => 0x15

/-- The Fault record code of a failed poll; BUS_STUCK gives no record of the entry (R99). -/
def WorkOutcome.faultCode : WorkOutcome → Option FaultCode
  | .addrNack => some .addrNack
  | .dataNack => some .dataNack
  | .stretchTimeout => some .stretchTimeout
  | .checkFail => some .checkFail
  | .arbLost => some .arbLost
  | .success => none
  | .busStuck => none

/-! ### Records (R111, R176) -/

/-- Size of a data record in bytes, header included (R111). -/
def Body.size : Body → Nat
  | .sample _ _ _ _ _ data => 5 + data.length
  | .fault _ _ _ _ _ => 7
  | .band _ _ _ _ => 7
  | .mark _ => 4

/-- Size of a record in bytes, header included (R111). -/
def Record.size : Record → Nat
  | .data b _ => b.size
  | .time _ => 3
  | .gap _ _ => 5

/-- Kind code (R111). -/
def Record.kind : Record → BitVec 3
  | .data (.sample _ _ _ _ _ _) _ => 1
  | .data (.fault _ _ _ _ _) _ => 2
  | .data (.band _ _ _ _) _ => 3
  | .time _ => 4
  | .gap _ _ => 5
  | .data (.mark _) _ => 6

/-- The header byte: kind code in bits 7 to 5, body length in bits 4 to 0 (R176). -/
def Record.header (r : Record) : Byte := r.kind ++ BitVec.ofNat 5 (r.size - 1)

/-- The body of a record, multi-byte fields low byte first (R176). -/
def Record.bodyBytes : Record → List Byte
  | .data (.sample n cause reduced probe overrun ds) st =>
    [BitVec.ofNat 8 n.val, loByte st, hiByte st,
     BitVec.ofNat 4 overrun ++ BitVec.ofBool probe ++ BitVec.ofBool reduced ++ cause.code] ++ ds
  | .data (.fault t n code health count) st =>
    [(t.map fun k => BitVec.ofNat 8 k.val).getD 0xFF#8, (n.map fun k => BitVec.ofNat 8 k.val).getD 0xFF#8,
     loByte st, hiByte st, code.code,
     BitVec.ofNat 4 count ++ 0#1 ++ (health.map Health.code).getD 7#3]
  | .data (.band n f t v) st =>
    [BitVec.ofNat 8 n.val, loByte st, hiByte st, 0#4 ++ t.code ++ f.code, loByte v, hiByte v]
  | .data (.mark tag) st => [tag, loByte st, hiByte st]
  | .time e => [loByte e, hiByte e]
  | .gap lost e => [loByte (BitVec.ofNat 16 lost), hiByte (BitVec.ofNat 16 lost), loByte e, hiByte e]

/-- A record as delivered at 1Ch (R176). -/
def Record.bytes (r : Record) : List Byte := r.header :: r.bodyBytes

/-! ### Result codes and wait reasons (R146, R147) -/

/-- OK. -/
def resOk : Byte := 0x01
/-- RANGE: the argument is out of range. -/
def resRange : Byte := 0x02
/-- INVALID: the image or the parameters break a rule, named by CMD_DETAIL. -/
def resInvalid : Byte := 0x03
/-- STATE: the part is in a state that does not allow the command. -/
def resState : Byte := 0x04
/-- FULL: the One-Shot List holds four requests. -/
def resFull : Byte := 0x05
/-- DUPLICATE: the request is already in the One-Shot List. -/
def resDuplicate : Byte := 0x06
/-- LOST: the Mark record was lost. -/
def resLost : Byte := 0x07
/-- ABORTED. -/
def resAborted : Byte := 0x08
/-- UNKNOWN: the code names no command. -/
def resUnknown : Byte := 0x09
/-- PENDING: what CMD_RESULT shows while the unit is BUSY. -/
def resPending : Byte := 0xFF

/-- The wait reason codes (R146). -/
def Wait.reason : Wait → Byte
  | .start => 0x01
  | .stop => 0x02
  | .entryLoad _ _ => 0x03
  | .targetLoad _ _ => 0x04
  | .raw .pending _ => 0x05
  | .raw .onSegment _ => 0x06
  | .raw .aborted _ => 0x07

end Sys2Proof.Machine
end

