-- ==== Sys2Proof/Machine/Ops.lean ====
section
/-! DEFINITION. Named operations over State that the meanings share: access to tables and segments, time, the storage
memory, command completion, the Host Port's data bytes, and the segment lists. -/

namespace Sys2Proof.Machine

/-! ### Access -/

/-- Entry n of the Poll Table. -/
def State.entry (s : State) (n : EntryNo) : Entry := s.entries[n.val]

/-- Replaces entry n. -/
def State.setEntry (n : EntryNo) (e : Entry) (s : State) : State := { s with entries := s.entries.set n.val e }

/-- Rewrites every entry. -/
def State.mapEntries (f : EntryNo → Entry → Entry) (s : State) : State :=
  { s with entries := Vector.ofFn fun n : Fin 32 => f n s.entries[n.val] }

/-- Target t of the Target Table. -/
def State.target (s : State) (t : TargetNo) : Target := s.targets[t.val]

/-- Replaces target t. -/
def State.setTarget (t : TargetNo) (g : Target) (s : State) : State := { s with targets := s.targets.set t.val g }

/-- Rewrites every target. -/
def State.mapTargets (f : Target → Target) (s : State) : State :=
  { s with targets := Vector.ofFn fun t : Fin 16 => f s.targets[t.val] }

/-- The segment x. -/
def State.seg (s : State) (x : Segment) : Seg :=
  match x with
  | .a => s.segA
  | .b => s.segB

/-- Replaces segment x. -/
def State.setSeg (x : Segment) (g : Seg) (s : State) : State :=
  match x with
  | .a => { s with segA := g }
  | .b => { s with segB := g }

/-- Rewrites both segments. -/
def State.mapSegs (f : Seg → Seg) (s : State) : State := { s with segA := f s.segA, segB := f s.segB }

/-- The segment of an entry: that of its target's current definition (R2). -/
def State.entrySegment (s : State) (n : EntryNo) : Segment := (s.target (s.entry n).d.target).d.segment

/-- All entry numbers, lowest first. -/
def allEntries : List EntryNo := List.finRange 32

/-- All target numbers, lowest first. -/
def allTargets : List TargetNo := List.finRange 16

/-! ### Outcome of an event -/

/-- The outcome of an event of the running part: while a hard reset is in force every block holds its hard-reset state
and the event does nothing (R167). -/
def running (s : State) (f : State → State) : Host.Outcome State Fault Refusal :=
  .next (if s.inReset then s else f s)

/-- Carries out `f` when the condition of an event holds; otherwise there is no event (log 1). -/
def whenever (c : Bool) (f : State → State) (s : State) : State := if c then f s else s

/-! ### Time (R21 to R23) -/

/-- The stamp counter (R21). -/
def State.stamp (s : State) : Long := BitVec.ofNat 32 s.elapsed

/-- The tick count: one tick for each 100 elapsed units (R21). -/
def State.tickCount (s : State) : Long := BitVec.ofNat 32 (s.elapsed / Config.unitsPerTick)

/-- The epoch of a stamp (R22). -/
def epochOf (stamp : Long) : Half := stamp.extractLsb' 16 16

/-- The low stamp (R22). -/
def lowStamp (stamp : Long) : Half := stamp.extractLsb' 0 16

/-- A due time is reached at a tick count (R23). -/
def reached (due now : Long) : Bool := decide ((now - due).toNat < 2 ^ 31)

/-- Due tick `j1` is earlier than `j2` (R23). -/
def earlier (j1 j2 : Long) : Bool := decide (1 ≤ (j2 - j1).toNat ∧ (j2 - j1).toNat < 2 ^ 31)

/-! ### Storage memory (R169, R173 to R175) -/

/-- The byte at an address; an unlisted address reads 00h, the reset value of section 10.4 (log 19). -/
def Memory.read : Memory → Nat → Byte
  | [], _ => 0
  | (k, v) :: m, a => if k = a then v else Memory.read m a

/-- Writes a byte, keeping the canonical form. -/
def Memory.write : Memory → Nat → Byte → Memory
  | [], a, v => if v = 0 then [] else [(a, v)]
  | (k, w) :: m, a, v =>
    if a < k then (if v = 0 then (k, w) :: m else (a, v) :: (k, w) :: m)
    else if a = k then (if v = 0 then m else (a, v) :: m)
    else (k, w) :: Memory.write m a v

/-- Writes bytes at consecutive addresses. -/
def Memory.writeBytes : Memory → Nat → List Byte → Memory
  | m, _, [] => m
  | m, a, v :: vs => Memory.writeBytes (Memory.write m a v) (a + 1) vs

/-- Canonical form from an address on: addresses strictly rising, no listed 00h. -/
def Memory.wfFrom : Nat → Memory → Bool
  | _, [] => true
  | lo, (k, v) :: m => decide (lo ≤ k) && (v != 0) && Memory.wfFrom (k + 1) m

/-- Canonical form of the storage memory. -/
def Memory.wf (m : Memory) : Bool := Memory.wfFrom 0 m

/-- Window address of ENTRY_IMAGE (section 10.4). -/
def entryImageBase : Nat := 0x30

/-- Window address of TARGET_IMAGE (section 10.4). -/
def targetImageBase : Nat := 0x4A

/-- Window address of the raw registers (section 10.4). -/
def rawBase : Nat := 0x58

/-- Window address of RAW_BUFFER (section 10.4). -/
def rawBufferBase : Nat := 0x60

/-! ### Command Unit (R145, R146) -/

/-- CMD_BUSY: the unit is BUSY. -/
def State.busy (s : State) : Bool := s.cu.wait.isSome

/-- A command completes with a result and detail (R146). -/
def complete (result detail : Byte) (s : State) : State :=
  { s with
    cu := { s.cu with wait := none, inProgress := none, result := result, detail := detail }
    sticky := { s.sticky with cmd := true } }

/-- A command completes with OK. -/
def completeOk (s : State) : State := complete resOk 0 s

/-- CMD takes the code, with CMD_ARG as argument (R145). -/
def takeCode (code : Byte) (s : State) : State :=
  { s with cu := { s.cu with cmd := code, taken := some { code := code, arg := s.cu.arg } } }

/-- The command just taken makes the unit BUSY (R146). -/
def beginWait (w : Wait) (s : State) : State :=
  { s with cu := { s.cu with wait := some w, inProgress := s.cu.taken } }

/-- A write to CMD that is not taken sets CMDREF (R145). -/
def notTaken (s : State) : State := { s with sticky := { s.sticky with cmdref := true } }

/-! ### Data bytes of the Host Port (R168) -/

/-- The pointer after a data byte: it advances by 1 and wraps, but stays at 1Ch (R168). -/
def nextPointer (p : RegAddr) : RegAddr := if p = 0x1C#7 then p else p + 1

/-- A data byte has completed. -/
def advance (s : State) : State := { s with host := { s.host with pointer := nextPointer s.host.pointer } }

/-- The next data byte to complete is a byte written at address a (log 3). -/
def State.writesAt (s : State) (a : RegAddr) : Bool := (s.host.framing == .writeRun) && (s.host.pointer == a)

/-- A data byte written at address a completes with effect f (R168, R169). -/
def writeByte (a : RegAddr) (f : State → State) (s : State) : Host.Outcome State Fault Refusal :=
  running s (whenever (s.writesAt a) fun s => advance (f s))

/-- A command code is written to CMD at 04h: taken when the unit is READY, not taken when it is BUSY (R145). -/
def command (code : Byte) (body : State → State) (s : State) : Host.Outcome State Fault Refusal :=
  writeByte 0x04#7 (fun s => if s.busy then notTaken s else body (takeCode code s)) s

/-! ### Lists (R34 to R38) -/

/-- Entry n stands in its segment's One-Shot List (R8). -/
def State.inOneShot (s : State) (n : EntryNo) : Bool := (s.seg (s.entrySegment n)).oneShot.contains n

/-- A segment's Due List: its members with their class, lowest entry number first; the list has no order of its own
(R34). -/
def State.dueList (s : State) (x : Segment) : List (EntryNo × DueClass) :=
  allEntries.filterMap fun n =>
    if s.entrySegment n = x then (s.entry n).due.map fun c => (n, c) else none

/-- Takes entry n out of its segment's Due List and One-Shot List (R9, R44). -/
def unlist (n : EntryNo) (s : State) : State :=
  let x := s.entrySegment n
  let s1 := s.setEntry n { s.entry n with due := none }
  s1.setSeg x { s1.seg x with oneShot := (s1.seg x).oneShot.filter (· != n) }

/-- Empties both lists of segment x with no record (R38). -/
def emptyLists (x : Segment) (s : State) : State :=
  let s1 := s.mapEntries fun n e => if s.entrySegment n = x then { e with due := none } else e
  s1.setSeg x { s1.seg x with oneShot := [] }

/-- Takes every entry of target t out of both lists of t's segment, with no record (R17). -/
def unlistTarget (t : TargetNo) (s : State) : State :=
  let x := (s.target t).d.segment
  let s1 := s.mapEntries fun _ e => if e.d.target = t then { e with due := none } else e
  s1.setSeg x { s1.seg x with oneShot := (s1.seg x).oneShot.filter fun n => (s.entry n).d.target != t }

/-- The requests of target t in its segment's One-Shot List, oldest first (R78). -/
def State.requestsOf (s : State) (t : TargetNo) : List EntryNo :=
  (s.seg (s.target t).d.segment).oneShot.filter fun n => (s.entry n).d.target == t

/-- A target whose entries may be polled: enabled and ACTIVE, SUSPECT or PROBING (R7). -/
def Target.available (g : Target) : Bool :=
  g.d.enabled && (g.health != .quarantined) && (g.health != .held)

/-- The live-state reset of an entry's own fields; in flight is left (R9). -/
def Entry.liveReset (e : Entry) : Entry :=
  { e with nextDue := 0, overrun := 0, stable := .normal, run := none, meanSum := 0, meanHeld := 0, last := 0,
           lastExists := false, due := none }

/-! ### LIMIT (R106) -/

/-- An entry asserts LIMIT: DEFINED, band enabled, drive LIMIT set, in HIGH or LOW (R106). -/
def Entry.drivesLimit (e : Entry) : Bool := e.defined && e.d.bandEnable && e.d.driveLimit && (e.stable != .normal)

/-- The LIMIT law over all entries (R106). -/
def State.limitLaw (s : State) : Bool := allEntries.any fun n => (s.entry n).drivesLimit

/-- Re-evaluates the LIMIT condition (R106). -/
def reevaluateLimit (s : State) : State := { s with limit := s.limitLaw }

/-- Sets bit n of BAND_PENDING (R103). -/
def setBandPending (n : EntryNo) (s : State) : State :=
  { s with bandPending := s.bandPending ||| (1#32 <<< n.val) }

/-- Clears bit n of BAND_PENDING (R11). -/
def clearBandPending (n : EntryNo) (s : State) : State :=
  { s with bandPending := s.bandPending &&& ~~~(1#32 <<< n.val) }

end Sys2Proof.Machine
end

