-- ==== Sys2Proof/Machine/Queue.lean ====
section
/-! DEFINITION. The Record Queue: units, admission in hold and evict mode, eviction and merge, loss accounting (chapter
6), and the release of a record that has been read (chapter 7). -/

namespace Sys2Proof.Machine

/-- Summed size of records. -/
def sizes (rs : List Record) : Nat := (rs.map Record.size).sum

/-- FILL: the bytes held (R110, R140). -/
def Queue.fill (q : Queue) : Nat := sizes q.records

/-- Free space: 2048 less FILL (R110). -/
def Queue.free (q : Queue) : Nat := Config.queueCapacity - q.fill

/-- The bookkeeping record placed in front of a data record (R116). -/
def Queue.front (q : Queue) (epoch : Half) : List Record :=
  if 0 < q.pendingLoss then [.gap q.pendingLoss epoch]
  else if q.epochWritten = some epoch then []
  else [.time epoch]

/-- The need of the unit of a data record (R117). -/
def Queue.need (q : Queue) (epoch : Half) (b : Body) : Nat := sizes (q.front epoch) + b.size

/-- A count that saturates as a Gap record's lost count does (R113). -/
def satLost (n : Nat) : Nat := min Config.lossCountMax n

/-- A count that saturates as LOSS_TOTAL does (R120). -/
def satTotal (n : Nat) : Nat := min Config.lossTotalMax n

/-- The unit is written at the tail (R118). -/
def Queue.write (q : Queue) (stamp : Long) (b : Body) : Queue :=
  { q with
    records := q.records ++ q.front (epochOf stamp) ++ [.data b (lowStamp stamp)]
    epochWritten := some (epochOf stamp)
    pendingLoss := 0 }

/-- A data record is lost at admission (R120). -/
def Queue.lose (q : Queue) : Queue :=
  { q with pendingLoss := satLost (q.pendingLoss + 1), lossTotal := satTotal (q.lossTotal + 1) }

/-- Running account of an eviction: bytes still held, data records removed, Gap counts carried forward, and the epoch of
the last Time or Gap record removed (R122, R123). -/
structure Tally where
  fill : Nat
  removed : Nat
  carried : Nat
  epoch : Option Half
  deriving DecidableEq, Repr

/-- Accounts for one record removed by eviction (R122, R125). -/
def Tally.remove (t : Tally) : Record → Tally
  | .data b _ => { t with fill := t.fill - b.size, removed := t.removed + 1 }
  | .time e => { t with fill := t.fill - 3, epoch := some e }
  | .gap lost e => { t with fill := t.fill - 5, carried := t.carried + lost, epoch := some e }

/-- Removes records oldest first until the free space is at least the target (R122, R123). -/
def evictUntil (target : Nat) : Tally → List Record → Tally × List Record
  | t, [] => (t, [])
  | t, r :: rs =>
    if target ≤ Config.queueCapacity - t.fill then (t, r :: rs) else evictUntil target (t.remove r) rs

/-- A Gap record directly behind the head Gap record is merged into it (R124). -/
def Queue.mergeHead (q : Queue) : Queue :=
  match q.records with
  | .gap l1 _ :: .gap l2 e2 :: rest => { q with records := .gap (satLost (l1 + l2)) e2 :: rest, headEpoch := some e2 }
  | _ => q

/-- Space is made by eviction for a unit with this need (R121 case 3, R122 to R125). A head_epoch that is still invalid
when it is asked for does not arise (R123); it counts as 0 (log 25). -/
def Queue.makeRoom (q : Queue) (need : Nat) : Queue :=
  let start : Tally := { fill := q.fill, removed := 0, carried := 0, epoch := none }
  match q.records with
  | .gap lost e :: rest =>
    let r := evictUntil need start rest
    Queue.mergeHead
      { q with
        records := .gap (satLost (lost + r.1.removed + r.1.carried)) (r.1.epoch.getD e) :: r.2
        headEpoch := r.1.epoch.or q.headEpoch
        lossTotal := satTotal (q.lossTotal + r.1.removed) }
  | rs =>
    let r := evictUntil (need + 5) start rs
    Queue.mergeHead
      { q with
        records := .gap (satLost (r.1.removed + r.1.carried)) (r.1.epoch.getD (q.headEpoch.getD 0)) :: r.2
        headEpoch := r.1.epoch.or q.headEpoch
        lossTotal := satTotal (q.lossTotal + r.1.removed) }

/-- What became of one data record: the queue after, whether the record was written, and whether LOSS is set. -/
structure Admission where
  queue : Queue
  written : Bool
  loss : Bool
  deriving DecidableEq, Repr

/-- One data record is taken from a group in the overflow mode in force (R119, R121). -/
def Queue.admitOne (evict pinned : Bool) (stamp : Long) (q : Queue) (b : Body) : Admission :=
  let need := q.need (epochOf stamp) b
  if need ≤ q.free then { queue := q.write stamp b, written := true, loss := false }
  else if !evict || pinned then { queue := q.lose, written := false, loss := true }
  else { queue := (q.makeRoom need).write stamp b, written := true, loss := true }

/-- A group is taken record by record at one stamp reading; the flag says whether LOSS is set (R115). -/
def Queue.admitGroup (evict pinned : Bool) (stamp : Long) : Queue → List Body → Queue × Bool
  | q, [] => (q, false)
  | q, b :: bs =>
    let a := q.admitOne evict pinned stamp b
    let r := Queue.admitGroup evict pinned stamp a.queue bs
    (r.1, a.loss || r.2)

/-- The admission event of a group, under the overflow mode and pin in force (R115, R127, R128). -/
def admitRecords (bs : List Body) (s : State) : State :=
  let r := s.queue.admitGroup s.ctrl.evict s.port.pinned s.stamp bs
  { s with queue := r.1, sticky := { s.sticky with loss := s.sticky.loss || r.2 } }

/-- The head record leaves because it has been read whole (R135, R125). -/
def Queue.release (q : Queue) : Queue :=
  match q.records with
  | [] => q
  | .data _ _ :: rest => { q with records := rest }
  | .time e :: rest => { q with records := rest, headEpoch := some e }
  | .gap _ e :: rest => { q with records := rest, headEpoch := some e }

end Sys2Proof.Machine
end

