-- ==== Sys2Proof/Machine/Flags.lean ====
section
/-! DEFINITION. The flags and the outputs that follow from them: the level flags, INT_FLAGS, the IRQ condition and pin
(R161 to R164), the LIMIT pin (R165). -/

namespace Sys2Proof.Machine

/-- WMARK: WATERMARK nonzero and FILL at least WATERMARK (R141). -/
def State.wmark (s : State) : Bool := decide (0 < s.watermark ∧ s.watermark ≤ s.queue.fill)

/-- NOTEMPTY: FILL above 0 (R142). -/
def State.notEmpty (s : State) : Bool := decide (0 < s.queue.fill)

/-- BAND: BAND_PENDING holds a set bit (R105). -/
def State.band (s : State) : Bool := s.bandPending != 0

/-- INT_FLAGS: bit 0 WMARK, 1 LOSS, 2 BAND, 3 HEALTH, 4 CMD, 5 SEGERR, 6 CMDREF, 7 NOTEMPTY (section 10.4). -/
def State.intFlags (s : State) : Byte :=
  BitVec.ofBool s.notEmpty ++ BitVec.ofBool s.sticky.cmdref ++ BitVec.ofBool s.sticky.segerr ++ BitVec.ofBool s.sticky.cmd
    ++ BitVec.ofBool s.sticky.health ++ BitVec.ofBool s.band ++ BitVec.ofBool s.sticky.loss ++ BitVec.ofBool s.wmark

/-- The IRQ condition: some flag both set and enabled (R164). -/
def State.irq (s : State) : Bool := (s.intFlags &&& s.intEnable) != 0

/-- What an output pin does. -/
inductive PinLevel where
  | low | high | released
  deriving DecidableEq, Repr

/-- The IRQ pin, active low in both drive types (R164). -/
def State.irqPin (s : State) : PinLevel :=
  if s.irq then .low else if s.ctrl.irqPushPull then .high else .released

/-- The LIMIT pin: push-pull at the polarity CTRL selects (R165). -/
def State.limitPin (s : State) : PinLevel := if s.limit == s.ctrl.limitActiveHigh then .high else .low

/-- A host write to INT_FLAGS: each sticky flag written as 1 is cleared (R162). -/
def Sticky.clear (f : Sticky) (v : Byte) : Sticky where
  loss := f.loss && !v.getLsbD 1
  health := f.health && !v.getLsbD 3
  cmd := f.cmd && !v.getLsbD 4
  segerr := f.segerr && !v.getLsbD 5
  cmdref := f.cmdref && !v.getLsbD 6

/-- Sets HEALTH (R77, R80, R81, R83, R84). -/
def setHealthFlag (s : State) : State := { s with sticky := { s.sticky with health := true } }

/-- Sets SEGERR (R65). -/
def setSegerr (s : State) : State := { s with sticky := { s.sticky with segerr := true } }

end Sys2Proof.Machine
end

