-- ==== Sys2Proof/Machine/Health.lean ====
section
/-! DEFINITION. The Health Unit: judging a completion, removal of work, the TICK, BACKOFF_EXPIRY, TARGET_HOLD and
TARGET_RELEASE commands (chapter 4), and the units of time they count by (R21). -/

namespace Sys2Proof.Machine

/-- What a judgement means beyond the health fields: nothing, a restored target (R80), or a quarantine (R77, R81). -/
inductive Verdict where
  | none | restored | quarantined
  deriving DecidableEq, Repr

/-- A counted failure of a target in ACTIVE or SUSPECT (R76, R77). -/
def Target.fail (g : Target) : Target × Verdict :=
  if g.failures + 1 < g.d.threshold.toNat then ({ g with health := .suspect, failures := g.failures + 1 }, .none)
  else
    ({ g with health := .quarantined, failures := g.d.threshold.toNat, current := g.d.baseBackoff.toNat,
              remaining := g.d.baseBackoff.toNat }, .quarantined)

/-- The backoff after a failed probe: doubled, limited to the max backoff (R81). -/
def Target.doubled (g : Target) : Nat := min (2 * g.current) g.d.maxBackoff.toNat

/-- The judgement of a completion against the target's health as it stands (R74 to R82). A completion of a QUARANTINED
target, or one without PROBE of a PROBING target, does not arise; it changes nothing (log 25). -/
def Target.judge (g : Target) (o : WorkOutcome) (probe : Bool) : Target × Verdict :=
  match g.health with
  | .active | .suspect =>
    if o = .success then ({ g with health := .active, failures := 0 }, .none)
    else if o.counted then g.fail
    else (g, .none)
  | .probing =>
    if !probe then (g, .none)
    else if o = .success then
      ({ g with health := .active, failures := 0, current := g.d.baseBackoff.toNat, remaining := 0 }, .restored)
    else if o.counted then
      ({ g with health := .quarantined, failures := g.d.threshold.toNat, current := g.doubled, remaining := g.doubled },
       .quarantined)
    else (g, .none)
  | .quarantined | .held => (g, .none)

/-- The DROPPED records of the requests of target t, in list order, with the health after the change (R78). -/
def State.droppedRecords (s : State) (t : TargetNo) (after : Target) : List Body :=
  (s.requestsOf t).map fun n => .fault (some t) (some n) .dropped (some after.health) after.failures

/-! ### Time: STAMP_COUNTER_ADVANCE, TICK and BACKOFF_EXPIRY -/

/-- One tick of a target's countdown (R79). -/
def Target.countDown (g : Target) : Target :=
  if g.health = .quarantined then { g with remaining := g.remaining - 1 } else g

/-- The next unit of elapsed time completes a tick (R21). -/
def State.tickNext (s : State) : Bool := (s.elapsed + 1) % Config.unitsPerTick == 0

/-- One unit of 10 microseconds passes (R21). Where it completes a tick, every quarantined target counts down in RUNNING
and STOPPING (R22, R79). -/
def passUnit (s : State) : State :=
  let s1 := { s with elapsed := s.elapsed + 1 }
  if s.tickNext && (s.collector != .stopped) then s1.mapTargets Target.countDown else s1

/-- TICK (R21, R22, R79): the unit that completes a tick passes; where the next unit completes none, there is no tick
(log 9). -/
def execTick (s : State) : Host.Outcome State Fault Refusal := running s (whenever s.tickNext passUnit)

/-- STAMP_COUNTER_ADVANCE (R21): one unit passes, and the tick with it where it completes one (log 9). -/
def execStampCounterAdvance (s : State) : Host.Outcome State Fault Refusal := running s passUnit

/-- BACKOFF_EXPIRY of target t (R79). -/
def execBackoffExpiry (t : TargetNo) (s : State) : Host.Outcome State Fault Refusal :=
  running s (whenever (((s.target t).health == .quarantined) && ((s.target t).remaining == 0))
    fun s => s.setTarget t { s.target t with health := .probing })

/-! ### TARGET_HOLD and TARGET_RELEASE -/

/-- The argument of a command as a target number (R147). -/
def State.targetArg (s : State) : Option TargetNo :=
  if h : s.cu.arg.toNat < 16 then some ⟨s.cu.arg.toNat, h⟩ else none

/-- The argument of a command as an entry number (R147). -/
def State.entryArg (s : State) : Option EntryNo :=
  if h : s.cu.arg.toNat < 32 then some ⟨s.cu.arg.toNat, h⟩ else none

/-- A target becomes HELD (R83): its fields, the removal of its work, the HELD and DROPPED records, HEALTH. -/
def holdTarget (t : TargetNo) (s : State) : State :=
  let g := s.target t
  let g' := { g with health := .held, remaining := 0 }
  let records := .fault (some t) none .held (some .held) g.failures :: s.droppedRecords t g'
  admitRecords records (setHealthFlag ((unlistTarget t s).setTarget t g'))

/-- A target is released (R84): its fields, the RELEASED record, HEALTH. -/
def releaseTarget (t : TargetNo) (s : State) : State :=
  let g := s.target t
  let g' := { g with health := .active, failures := 0, remaining := 0, current := g.d.baseBackoff.toNat }
  admitRecords [.fault (some t) none .released (some .active) 0] (setHealthFlag (s.setTarget t g'))

/-- The checks TARGET_HOLD and TARGET_RELEASE share: RANGE, then STATE for a disabled target (R156). -/
def onEnabledTarget (f : TargetNo → State → State) (s : State) : State :=
  match s.targetArg with
  | none => complete resRange 0 s
  | some t => if (s.target t).d.enabled then completeOk (f t s) else complete resState 0 s

/-- TARGET_HOLD (R83, R156): a hold of a HELD target completes with OK and does nothing else. -/
def execTargetHold (s : State) : Host.Outcome State Fault Refusal :=
  command 0x09#8 (onEnabledTarget fun t s => if (s.target t).health = .held then s else holdTarget t s) s

/-- TARGET_RELEASE (R84, R156): a release of an ACTIVE target completes with OK and does nothing else. -/
def execTargetRelease (s : State) : Host.Outcome State Fault Refusal :=
  command 0x08#8 (onEnabledTarget fun t s => if (s.target t).health = .active then s else releaseTarget t s) s

end Sys2Proof.Machine
end

