-- ==== Sys2Proof/Machine/Result.lean ====
section
/-! DEFINITION. The Result Stage and the Band Monitor: value extraction, report modes, Fault records of polls, band
classification, runs and transitions (chapter 5). -/

namespace Sys2Proof.Machine

/-! ### The value (R91) -/

/-- The value of a successful poll's data bytes under a definition (R91). -/
def EntryDef.value (d : EntryDef) (data : List Byte) : Int :=
  let b0 := data.getD d.offset.val 0
  let b1 := data.getD (d.offset.val + 1) 0
  if d.wide then fieldInt d.signed (if d.highFirst then joinBytes b1 b0 else joinBytes b0 b1)
  else if d.signed then b0.toInt else (b0.toNat : Int)

/-! ### Report modes (R93 to R98) -/

/-- What the report mode does with a value: the entry's report fields after, and the data of the Sample record that is
formed, with its REDUCED bit (R94 to R97). -/
def Entry.report (e : Entry) (v : Int) (data : List Byte) : Entry × Option (Bool × List Byte) :=
  match e.d.mode with
  | .always => (e, some (false, data))
  | .onChange =>
    if !e.lastExists || decide (e.d.deadband.toNat < (v - fieldInt e.d.signed e.last).natAbs) then
      ({ e with last := valueField v, lastExists := true }, some (false, data))
    else (e, none)
  | .mean =>
    let n := meanCount e.d.meanCode
    if e.meanHeld + 1 < n then ({ e with meanSum := e.meanSum + v, meanHeld := e.meanHeld + 1 }, none)
    else
      let m := valueField ((e.meanSum + v).fdiv n)
      ({ e with meanSum := 0, meanHeld := 0 }, some (true, [loByte m, hiByte m]))
  | .silent => (e, none)

/-! ### Band Monitor (R100 to R104) -/

/-- A value limited to the 16-bit range of a signedness (R101). -/
def clampRange (signed : Bool) (v : Int) : Int := max (rangeLow signed) (min (rangeHigh signed) v)

/-- The high return threshold (R101). -/
def EntryDef.highReturn (d : EntryDef) : Int :=
  clampRange d.signed (fieldInt d.signed d.highLimit - d.hysteresis.toNat)

/-- The low return threshold (R101). -/
def EntryDef.lowReturn (d : EntryDef) : Int :=
  clampRange d.signed (fieldInt d.signed d.lowLimit + d.hysteresis.toNat)

/-- The target state a value points to from a stable state (R101). -/
def EntryDef.pointsTo (d : EntryDef) (stable : Band) (v : Int) : Option Band :=
  let lo := fieldInt d.signed d.lowLimit
  let hi := fieldInt d.signed d.highLimit
  match stable with
  | .normal => if hi < v then some .high else if v < lo then some .low else none
  | .high => if v < lo then some .low else if v ≤ d.highReturn then some .normal else none
  | .low => if hi < v then some .high else if d.lowReturn ≤ v then some .normal else none

/-- The run after a target has been found (R102). -/
def nextRun (run : Option (Band × Nat)) (target : Option Band) : Option (Band × Nat) :=
  match target with
  | none => none
  | some b =>
    match run with
    | some (dir, k) => if dir = b then some (b, k + 1) else some (b, 1)
    | none => some (b, 1)

/-- The Band Monitor's classification of a value: the entry after, and the transition if one takes place (R102, R103). -/
def Entry.classify (e : Entry) (v : Int) : Entry × Option (Band × Band) :=
  if !e.d.bandEnable then (e, none)
  else
    match nextRun e.run (e.d.pointsTo e.stable v) with
    | none => ({ e with run := none }, none)
    | some (b, k) =>
      if k = e.d.confirm.toNat then ({ e with stable := b, run := none }, some (e.stable, b))
      else ({ e with run := some (b, k) }, none)

/-! ### The Result Stage's part of a completion (R89, R90) -/

/-- What the Result Stage makes of a completion: the entry after, its records in order, and whether a transition took
place. -/
structure Result where
  entry : Entry
  records : List Body
  transition : Bool
  deriving DecidableEq, Repr

/-- A successful poll (R89): value, report, band. The overrun count is taken by the Sample record and cleared (R98). -/
def Entry.succeed (e : Entry) (n : EntryNo) (cause : Cause) (probe : Bool) (data : List Byte) : Result :=
  let v := e.d.value data
  let r := e.report v data
  let sample := r.2.map fun x => Body.sample n cause x.1 probe e.overrun x.2
  let e1 := if r.2.isSome then { r.1 with overrun := 0 } else r.1
  let c := e1.classify v
  let band := (c.2.filter fun _ => e.d.bandRecord).map fun t => Body.band n t.1 t.2 (valueField v)
  { entry := c.1, records := sample.toList ++ band.toList, transition := c.2.isSome }

/-- A poll that did not succeed (R89, R99, R104): the run is cleared when band is enabled, and one Fault record is formed
but for BUS_STUCK. -/
def Entry.failPoll (e : Entry) (n : EntryNo) (t : TargetNo) (g : Target) (o : WorkOutcome) : Result :=
  { entry := if e.d.bandEnable then { e with run := none } else e
    records := (o.faultCode.map fun c => Body.fault (some t) (some n) c (some g.health) g.failures).toList
    transition := false }

/-- The Result Stage's work on one completion, with the target as the Health Unit has left it (R89). -/
def Entry.process (e : Entry) (p : PollWork) (g : Target) (o : WorkOutcome) (data : List Byte) : Result :=
  if o = .success then e.succeed p.entry p.cause p.probe data else e.failPoll p.entry p.target g o

/-- The RESTORED record that leads the group of a successful probe (R80, R90). -/
def restoredRecords (p : PollWork) (v : Verdict) : List Body :=
  if v = .restored then [.fault (some p.target) (some p.entry) .restored (some .active) 0] else []

/-- The processing of a completion by the Health Unit and the Result Stage, and the admission of its group (R62, R74,
R78, R89, R90, R103). -/
def processCompletion (p : PollWork) (o : WorkOutcome) (data : List Byte) (s : State) : State :=
  let j := (s.target p.target).judge o p.probe
  let r := (s.entry p.entry).process p j.1 o data
  let dropped := if j.2 = .quarantined then s.droppedRecords p.target j.1 else []
  let s1 := s.setTarget p.target j.1
  let s2 := s1.setEntry p.entry r.entry
  let s3 := if j.2 = .quarantined then unlistTarget p.target s2 else s2
  let s4 := if j.2 = .none then s3 else setHealthFlag s3
  let s5 := if r.transition then reevaluateLimit (setBandPending p.entry s4) else s4
  admitRecords (restoredRecords p j.2 ++ r.records ++ dropped) s5

end Sys2Proof.Machine
end

