-- ==== Sys2Proof/Machine/Tables.lean ====
section
/-! DEFINITION. The table commands: ENTRY_LOAD, ENTRY_FETCH, TARGET_LOAD, TARGET_FETCH, and the application of a load
(chapter 1, R151 to R154). -/

namespace Sys2Proof.Machine

/-- The application of a valid ENTRY_LOAD(n); the candidate `none` makes the entry EMPTY (R1, R9, R11). -/
def applyEntryLoad (n : EntryNo) (candidate : Option EntryDef) (s : State) : State :=
  let d := candidate.getD EntryDef.zero
  let s1 := unlist n s
  let e := { (s1.entry n).liveReset with defined := candidate.isSome, d := d }
  let due := s.tickCount + d.phase.setWidth 32
  let e' := if (s.collector = .running) ∧ candidate.isSome then { e with nextDue := due } else e
  reevaluateLimit (clearBandPending n (s1.setEntry n e'))

/-- The health of a target that is loaded (R17, R87). -/
def Target.loaded (d : TargetDef) : Target :=
  { d := d, health := .active, failures := 0, remaining := 0, current := d.baseBackoff.toNat }

/-- The application of a valid TARGET_LOAD(t) (R17): a load that disables t takes its entries out of the lists. -/
def applyTargetLoad (t : TargetNo) (d : TargetDef) (s : State) : State :=
  (if d.enabled then s else unlistTarget t s).setTarget t (Target.loaded d)

/-- Byte k of the entry image register area. -/
def State.entryImageByte (s : State) (k : Nat) : Byte := Memory.read s.mem (entryImageBase + k)

/-- Byte k of the target image register area. -/
def State.targetImageByte (s : State) (k : Nat) : Byte := Memory.read s.mem (targetImageBase + k)

/-- The candidate an entry image stands for: length 0 makes the entry EMPTY (R10, R174). -/
def entryCandidate (img : Nat → Byte) : Option EntryDef :=
  if imageLength img = 0 then none else some (entryDefOf img)

/-- The field code of an entry image: an EMPTY load is accepted without further checks (R10). -/
def entryLoadCode (img : Nat → Byte) : Byte := if imageLength img = 0 then 0 else entryCode img

/-- ENTRY_LOAD (R10, R151): RANGE, INVALID with the field code, else applied at once or deferred behind a poll of n. -/
def execEntryLoad (s : State) : Host.Outcome State Fault Refusal :=
  command 0x03#8 (fun s =>
    match s.entryArg with
    | none => complete resRange 0 s
    | some n =>
      let img := s.entryImageByte
      if entryLoadCode img ≠ 0 then complete resInvalid (entryLoadCode img) s
      else if (s.entry n).inFlight then beginWait (.entryLoad n (entryCandidate img)) s
      else completeOk (applyEntryLoad n (entryCandidate img) s)) s

/-- Ticks to due of entry n (R12). -/
def State.ticksToDue (s : State) (n : EntryNo) : Half :=
  let e := s.entry n
  if (s.collector = .running) ∧ e.defined ∧ e.d.tier ≠ 0 ∧ !reached e.nextDue s.tickCount then
    BitVec.ofNat 16 (min 65535 (e.nextDue - s.tickCount).toNat)
  else 0

/-- The 26 bytes ENTRY_FETCH(n) writes (R12, R174). -/
def State.entryImage (s : State) (n : EntryNo) : List Byte :=
  (s.entry n).d.bytes ++ (s.entry n).liveBytes (s.inOneShot n) (s.ticksToDue n)

/-- ENTRY_FETCH (R12, R153). -/
def execEntryFetch (s : State) : Host.Outcome State Fault Refusal :=
  command 0x04#8 (fun s =>
    match s.entryArg with
    | none => complete resRange 0 s
    | some n => completeOk { s with mem := Memory.writeBytes s.mem entryImageBase (s.entryImage n) }) s

/-- Another enabled target has the candidate's segment and address (R13, R16 code 5). -/
def State.addressClash (s : State) (t : TargetNo) (d : TargetDef) : Bool :=
  allTargets.any fun u =>
    (u != t) && (s.target u).d.enabled && ((s.target u).d.segment == d.segment) && ((s.target u).d.address == d.address)

/-- A poll of an entry whose target is t is in flight (R16, R154). -/
def State.targetInFlight (s : State) (t : TargetNo) : Bool :=
  allEntries.any fun n => (s.entry n).inFlight && ((s.entry n).d.target == t)

/-- TARGET_LOAD (R16, R154): RANGE, INVALID with the field code, STATE for a segment change in RUNNING, else applied at
once or deferred behind a poll of t. -/
def execTargetLoad (s : State) : Host.Outcome State Fault Refusal :=
  command 0x05#8 (fun s =>
    match s.targetArg with
    | none => complete resRange 0 s
    | some t =>
      let d := targetDefOf s.targetImageByte
      let code := targetCode d (s.addressClash t d)
      if code ≠ 0 then complete resInvalid code s
      else if (s.collector = .running) ∧ d.segment ≠ (s.target t).d.segment then complete resState 0 s
      else if s.targetInFlight t then beginWait (.targetLoad t d) s
      else completeOk (applyTargetLoad t d s)) s

/-- The 10 bytes TARGET_FETCH(t) writes (R18, R175). -/
def State.targetImage (s : State) (t : TargetNo) : List Byte := (s.target t).d.bytes ++ (s.target t).liveBytes

/-- TARGET_FETCH (R18, R153). -/
def execTargetFetch (s : State) : Host.Outcome State Fault Refusal :=
  command 0x06#8 (fun s =>
    match s.targetArg with
    | none => complete resRange 0 s
    | some t => completeOk { s with mem := Memory.writeBytes s.mem targetImageBase (s.targetImage t) }) s

end Sys2Proof.Machine
end

