-- ==== Sys2Proof/Machine/Engine.lean ====
section
/-! DEFINITION. The Segment Engines: lines, free check and bus check, completion of work, and the commands that come from
a segment's bus (chapter 3). -/

namespace Sys2Proof.Machine

/-! ### Lines and checks -/

/-- Rewrites the engine of a segment. -/
def Seg.withEngine (g : Seg) (f : Engine → Engine) : Seg := { g with engine := f g.engine }

/-- Rewrites segment x. -/
def State.modSeg (x : Segment) (f : Seg → Seg) (s : State) : State := s.setSeg x (f (s.seg x))

/-- The engine of segment x. -/
def State.engine (s : State) (x : Segment) : Engine := (s.seg x).engine

/-- The level of a line that reads low since a moment: it fell then where it was noted as high, and has been low since it
fell where it was noted as low already (R50). -/
def LineLevel.low (l : LineLevel) (since : Int) : LineLevel := if l.high then { high := false, fell := since } else l

/-- A line comes to read high (R50). -/
def LineLevel.rise (l : LineLevel) : LineLevel := { l with high := true }

/-- The level of a line that reads low and is known to have fallen no earlier than a moment: its last fall is the one noted
where that is later, and the given moment otherwise (R50). -/
def LineLevel.lowSince (l : LineLevel) (since : Int) : LineLevel := { high := false, fell := max l.fell since }

/-- Lines come to read high (R50). -/
def Seg.rise (l : Lines) (g : Seg) : Seg :=
  match l with
  | .scl => { g with scl := g.scl.rise }
  | .sda => { g with sda := g.sda.rise }
  | .both => { g with scl := g.scl.rise, sda := g.sda.rise }

/-- Both lines read high. -/
def Seg.linesHigh (g : Seg) : Bool := g.scl.high && g.sda.high

/-- A limit in milliseconds has passed since a moment (R49, R50; log 23). -/
def elapsedSince (now : Nat) (moment : Int) (ms : Nat) : Bool :=
  decide (((Config.unitsPerTick * ms : Nat) : Int) ≤ (now : Int) - moment)

/-- A line has been low without interruption for a limit (R50). -/
def LineLevel.lowFor (l : LineLevel) (now ms : Nat) : Bool := !l.high && elapsedSince now l.fell ms

/-- Some line of the segment has been low for the latched bus-free limit (R50, R52). -/
def Seg.lineStuck (g : Seg) (now : Nat) : Bool :=
  g.scl.lowFor now g.engine.latched.busFree || g.sda.lowFor now g.engine.latched.busFree

/-- A limit register holding 0 is latched as 1 (R48). -/
def latchLimit (v : Byte) : Nat := if v = 0 then 1 else v.toNat

/-- The configuration registers are latched, which clears the bus-busy indication (R48, R51). -/
def Seg.latch (g : Seg) : Seg :=
  g.withEngine fun e =>
    { e with
      latched := { fast := g.cfgFast, multiMaster := g.cfgMulti, stretch := latchLimit g.cfgStretch,
                   busFree := latchLimit g.cfgBusFree }
      busBusy := false }

/-- The free check finds the bus free: both lines high and, in multi-master mode, not busy (R50, R51). -/
def Seg.busIsFree (g : Seg) : Bool := g.linesHigh && !(g.engine.latched.multiMaster && g.engine.busBusy)

/-- The free check as the lines stand: the first START at once, or a wait (R50). -/
def Seg.freeCheck (g : Seg) : Seg :=
  g.withEngine fun e => { e with stage := if g.busIsFree then .onWire else .freeCheck }

/-- A free check begins (R50): the wait on other masters is timed from here (R51). -/
def Seg.beginFreeCheck (now : Nat) (g : Seg) : Seg :=
  Seg.freeCheck (g.withEngine fun e => { e with waitSince := now })

/-- The engine takes work: BUSY, no retries yet, free check (R46, R50, R61). -/
def Seg.takeWork (now : Nat) (w : Work) (g : Seg) : Seg :=
  Seg.beginFreeCheck now (g.withEngine fun e => { e with state := .busy, work := some w, retries := 0, received := [] })

/-- The bus check of START as the lines stand: ready (a FAULTED engine becomes IDLE), or a wait (R52). -/
def Seg.busCheck (g : Seg) : Seg :=
  if g.linesHigh then g.withEngine fun e => { e with state := .idle, stage := .none }
  else g.withEngine fun e => { e with stage := .busCheck }

/-- A segment has not finished preparing for START: its bus check waits, or its bus clear runs (R25, R52). -/
def Seg.preparing (g : Seg) : Bool := (g.engine.stage == .busCheck) || (g.engine.state == .clearing)

/-- The engine is IDLE or FAULTED (R28). -/
def Engine.atRest (e : Engine) : Bool := (e.state == .idle) || (e.state == .faulted)

/-- Some entry of segment x is in flight (R42). -/
def State.segInFlight (s : State) (x : Segment) : Bool :=
  allEntries.any fun n => (s.entry n).inFlight && (s.entrySegment n == x)

/-- Segment x is free: its engine is IDLE with no bus check going on, and the processing of its last completion has ended
(R42). -/
def State.free (s : State) (x : Segment) : Bool :=
  ((s.engine x).state == .idle) && ((s.engine x).stage != .busCheck) && !s.segInFlight x

/-- The drain of STOP has ended: each engine IDLE or FAULTED, no completion still in processing (R28). -/
def State.drained (s : State) : Bool :=
  (s.engine .a).atRest && (s.engine .b).atRest && !s.segInFlight .a && !s.segInFlight .b

/-- The collector enters STOPPED and STOP completes with OK (R28, R150). -/
def enterStopped (s : State) : State :=
  let s1 := { s with collector := .stopped }
  if s.cu.wait = some .stop then completeOk s1 else s1

/-! ### The end of work (R62, R65, R70, R152) -/

/-- The engine of segment x gives up its work and takes a state (R62, R65). -/
def releaseEngine (x : Segment) (st : EngineState) (s : State) : State :=
  s.modSeg x fun g => g.withEngine fun e => { e with state := st, work := none, stage := .none, received := [] }

/-- The in-flight flag of an entry is cleared (R62). -/
def clearInFlight (n : EntryNo) (s : State) : State := s.setEntry n { s.entry n with inFlight := false }

/-- The end of the processing of poll p: a load deferred behind it is applied, the in-flight flag is cleared, and the load
completes with OK, in this order (R152). -/
def endProcessing (p : PollWork) (s : State) : State :=
  match s.cu.wait with
  | some (.entryLoad n c) =>
    if n = p.entry then completeOk (clearInFlight p.entry (applyEntryLoad n c s)) else clearInFlight p.entry s
  | some (.targetLoad t d) =>
    if t = p.target then completeOk (clearInFlight p.entry (applyTargetLoad t d s)) else clearInFlight p.entry s
  | _ => clearInFlight p.entry s

/-- Poll p has ended with an outcome: its processing, and the end of the processing (R62, R89, R152). -/
def finishPoll (p : PollWork) (o : WorkOutcome) (data : List Byte) (s : State) : State :=
  endProcessing p (processCompletion p o data s)

/-- Raw transfer r has ended with an outcome: the read bytes are stored on success and CHECK_FAIL unless it was aborted
(R69), and the command completes with the raw result, or ABORTED (R70, R159). -/
def finishRaw (r : RawParams) (o : WorkOutcome) (data : List Byte) (s : State) : State :=
  match s.cu.wait with
  | some (.raw .aborted _) => complete resAborted 0 s
  | some (.raw _ _) =>
    let s1 := if o = .success ∨ o = .checkFail then
        { s with mem := Memory.writeBytes s.mem rawBufferBase (data.take r.readCount.val) } else s
    complete o.rawResult 0 s1
  | _ => s

/-- The work of segment x ends with an outcome, and the engine takes a state (R46, R62). -/
def finishWork (x : Segment) (w : Work) (o : WorkOutcome) (data : List Byte) (st : EngineState) (s : State) : State :=
  let s1 := releaseEngine x st s
  match w with
  | .poll p => finishPoll p o data s1
  | .raw r => finishRaw r o data s1

/-- The work of segment x, from its first START on, the wait between an intermediate STOP and the new START included
(R54). -/
def State.workOnWire (s : State) (x : Segment) : Option Work :=
  if (s.engine x).stage = .onWire ∨ (s.engine x).stage = .stopGap then (s.engine x).work else none

/-- The work of segment x whose transaction can come to its final STOP: behind an intermediate STOP the new START waits
until both lines read high (R54). -/
def State.workToStop (s : State) (x : Segment) : Option Work :=
  if (s.engine x).stage = .onWire ∨ ((s.engine x).stage = .stopGap ∧ (s.seg x).linesHigh) then (s.engine x).work else none

/-- The engine's own STOP is made: SDA rises while SCL is high, so that both lines read high (R50), and like every STOP on the
bus it clears the bus-busy indication (R51; log 13). -/
def Seg.ownStop (g : Seg) : Seg := (g.rise .both).withEngine fun e => { e with busBusy := false }

/-- The engine of segment x makes its STOP. -/
def ownStop (x : Segment) (s : State) : State := s.modSeg x Seg.ownStop

/-- The transaction of segment x's work runs to its STOP: the engine takes the bytes and makes its STOP, and the
work ends with the outcome the acknowledges and the check byte give (R50, R51, R53 to R60). -/
def runToStop (x : Segment) (w : Work) (resp : WireResponse) (s : State) : State :=
  let s1 := (ownStop x s).modSeg x fun g => g.withEngine fun e => { e with received := w.xfer.receive resp }
  let bytes := (s1.engine x).received
  finishWork x w (w.xfer.outcome resp.acks bytes) (bytes.take w.xfer.reads) .idle s1

/-- COMPLETION of the poll on segment x's wire (R53 to R60, R62, R89, R152). -/
def execCompletion (x : Segment) (resp : WireResponse) (s : State) : Host.Outcome State Fault Refusal :=
  running s fun s =>
    match s.workToStop x with
    | some (.poll p) => runToStop x (.poll p) resp s
    | some (.raw _) => s
    | none => s

/-- RAW_TRANSFER_COMPLETION of the raw transfer on segment x's wire (R68 to R70, R159). -/
def execRawTransferCompletion (x : Segment) (resp : WireResponse) (s : State) : Host.Outcome State Fault Refusal :=
  running s fun s =>
    match s.workToStop x with
    | some (.raw r) => runToStop x (.raw r) resp s
    | some (.poll _) => s
    | none => s

/-- A load is deferred behind poll p (R151, R154). -/
def State.deferredBehind (s : State) (p : PollWork) : Bool :=
  match s.cu.wait with
  | some (.entryLoad n _) => n == p.entry
  | some (.targetLoad t _) => t == p.target
  | _ => false

/-- DEFERRED_LOAD_END: the poll on segment x's wire, behind which a load is deferred, completes, and the load ends with
its processing at the same event (R152; the event is that COMPLETION's, log 7). -/
def execDeferredLoadEnd (x : Segment) (resp : WireResponse) (s : State) : Host.Outcome State Fault Refusal :=
  running s fun s =>
    match s.workToStop x with
    | some (.poll p) => if s.deferredBehind p then runToStop x (.poll p) resp s else s
    | some (.raw _) => s
    | none => s

/-- The bus as a wait that has reached the stretch limit leaves it (R50, R59). On SDA, which the engine releases while SCL is
high, the condition is abandoned and SDA reads low. On SCL the engine attempts a STOP: SCL that does not come high within a
further limit abandons it and reads low; where it comes high, the wait on SDA that forms the STOP is bounded by the limit too;
and a STOP that is made is the engine's own. A line that is left low has been low for the wait on it and for the time before
that the row gives, or since a fall noted later (log 34).
DESIGN CHOICE (log 35): the wait of the stop-between gap, `inGap`, held on SDA is taken as one of the waits on SDA, so that no
STOP is attempted behind it and SDA is noted as low; SCL may read low there too, and its noted level stands. -/
def Seg.giveUp (line : LineName) (waited : Nat) (h : HeldTransfer) (inGap : Bool) (limit now : Nat) (g : Seg) : Seg :=
  let held (l : LineLevel) (wait : Nat) : LineLevel := l.lowSince ((now : Int) - ((wait + h.lowBefore : Nat) : Int))
  match line with
  | .sda =>
    { g with scl := if inGap then g.scl else g.scl.rise, sda := held g.sda waited }
  | .scl =>
    if 2 * limit ≤ waited then { g with scl := held g.scl waited }
    else if limit ≤ h.sdaWait then { g with scl := g.scl.rise, sda := held g.sda h.sdaWait }
    else g.ownStop

/-- A wait stands in the gap of a stop-between transaction: the address byte behind the new START, the last byte sent, has no
acknowledge yet (R54, R59; log 12). -/
def State.waitsInGap (s : State) (x : Segment) (w : Work) (h : HeldTransfer) : Bool :=
  ((s.engine x).stage == .stopGap) && decide (h.acks.length < w.xfer.sent.length)

/-- STRETCH_TIMEOUT (R54, R59): a wait that has reached the stretch limit ends the work on the wire. Held on SCL the
outcome is STRETCH_TIMEOUT, and the engine attempts a STOP for a further stretch limit. Held on SDA, where the engine forms
a START or STOP, the outcome is the error already found, and STRETCH_TIMEOUT where none was, and no STOP is made. The bytes
received are discarded (log 12).
DESIGN CHOICE (log 31): SCL held while the STOP after a not-acknowledge is formed gives STRETCH_TIMEOUT, by R59's sentence
on SCL, and not the ADDR_NACK or DATA_NACK of R57 and R58; the acknowledges do not give the outcome there.
DESIGN CHOICE (log 36): the wait of the stop-between gap ends the work where it reaches the limit, by R59, and not only where
it is longer, as R54 words it. -/
def execStretchTimeout (x : Segment) (line : LineName) (waited : Nat) (h : HeldTransfer) (s : State) :
    Host.Outcome State Fault Refusal :=
  running s fun s =>
    match s.workOnWire x with
    | some w =>
      let limit := Config.unitsPerTick * (s.engine x).latched.stretch
      if limit ≤ waited then
        let outcome :=
          if line = .sda then (firstNack true w.xfer.sent h.acks).getD .stretchTimeout else .stretchTimeout
        finishWork x w outcome [] .idle (s.modSeg x (Seg.giveUp line waited h (s.waitsInGap x w h) limit s.elapsed))
      else s
    | none => s

/-- The engine of segment x loses arbitration for its work: the count rises, the bytes received are discarded, and the
engine waits to restart, or with the third loss ends the work with ARB_LOST (R61). -/
def loseArbitration (x : Segment) (w : Work) (s : State) : State :=
  let s1 := s.modSeg x fun g => g.withEngine fun e =>
    { e with retries := e.retries + 1, received := [], stage := .arbWait, waitSince := s.elapsed }
  if (s1.engine x).retries < 3 then s1 else finishWork x w .arbLost [] .idle s1

/-- ARBITRATION_LOSS (R61): in multi-master mode a bit is lost. -/
def execArbitrationLoss (x : Segment) (s : State) : Host.Outcome State Fault Refusal :=
  running s fun s =>
    match s.workOnWire x with
    | some w => if (s.engine x).latched.multiMaster then loseArbitration x w s else s
    | none => s

/-! ### What is seen on the lines (R50 to R52) -/

/-- A line falls low at a moment (R50). -/
def Seg.fall (l : LineName) (now : Nat) (g : Seg) : Seg :=
  match l with
  | .scl => { g with scl := g.scl.low now }
  | .sda => { g with sda := g.sda.low now }

/-- A waiting free check or bus check looks at the lines again (R50, R52). -/
def Seg.recheck (g : Seg) : Seg :=
  match g.engine.stage with
  | .freeCheck => g.freeCheck
  | .busCheck => g.busCheck
  | .none | .onWire | .stopGap | .arbWait => g

/-- LINE_FALL (R50): the level and the moment, in every engine state; a hard reset does not stop the pins. A line that
reads low already does not fall (log 1). -/
def execLineFall (x : Segment) (l : LineName) (s : State) : Host.Outcome State Fault Refusal :=
  .next (s.modSeg x (Seg.fall l s.elapsed))

/-- BUS_FREE (R50, R52): lines come to read high, and a waiting check goes on. -/
def execBusFree (x : Segment) (l : Lines) (s : State) : Host.Outcome State Fault Refusal :=
  .next (s.modSeg x fun g => (g.rise l).recheck)

/-- The work an engine holds has a STOP between its two parts (R54). -/
def Engine.hasGap (e : Engine) : Bool :=
  match e.work with
  | some w => w.xfer.hasGap
  | none => false

/-- BUS_STOP_SEEN (R51, R54, R61): the indication is cleared (in every state but FAULTED), a waiting free check goes on, and
a wait after an arbitration loss ends with a new free check. While a stop-between transaction is on the wire, the STOP is
the engine's own intermediate one (log 32), which leaves both lines high (R50; log 13). -/
def execBusStopSeen (x : Segment) (s : State) : Host.Outcome State Fault Refusal :=
  running s (whenever ((s.engine x).state != .faulted) fun s => s.modSeg x fun g =>
    let g1 := g.withEngine fun e => { e with busBusy := false }
    match g.engine.stage with
    | .freeCheck => g1.freeCheck
    | .arbWait => g1.beginFreeCheck s.elapsed
    | .onWire => if g.engine.hasGap then g.ownStop.withEngine fun e => { e with stage := .stopGap } else g1
    | .none | .stopGap | .busCheck => g1)

/-- FOREIGN_START_SEEN (R51, R54, R61): the indication is set (in every state but FAULTED); a free check that did not wait
on it begins to wait now (log 15). In multi-master mode a START behind the engine's own intermediate STOP, where its new
START is due, is a loss of arbitration. -/
def execForeignStartSeen (x : Segment) (s : State) : Host.Outcome State Fault Refusal :=
  running s (whenever ((s.engine x).state != .faulted) fun s =>
    let s1 := s.modSeg x fun g => g.withEngine fun e =>
      { e with busBusy := true, waitSince := if (e.stage = .freeCheck) ∧ !e.busBusy then s.elapsed else e.waitSince }
    match (s.engine x).work with
    | some w => if (s.engine x).stage = .stopGap ∧ (s.engine x).latched.multiMaster then loseArbitration x w s1 else s1
    | none => s1)

/-- The bus-free limit has elapsed in a wait on other masters: in the free check while the bus is busy (R51), or after an
arbitration loss (R61). -/
def Seg.busyWaitOver (g : Seg) (now : Nat) : Bool :=
  ((g.engine.stage == .freeCheck && g.engine.latched.multiMaster && g.engine.busBusy) || g.engine.stage == .arbWait)
    && elapsedSince now g.engine.waitSince g.engine.latched.busFree

/-- BUS_BUSY_TIMEOUT (R51, R61): the bus is treated as free, the indication is cleared, and the free check goes on, or
begins anew after an arbitration loss. -/
def execBusBusyTimeout (x : Segment) (s : State) : Host.Outcome State Fault Refusal :=
  running s (whenever ((s.seg x).busyWaitOver s.elapsed) fun s => s.modSeg x fun g =>
    let g1 := g.withEngine fun e => { e with busBusy := false }
    if g.engine.stage = .arbWait then g1.beginFreeCheck s.elapsed else g1.freeCheck)

/-! ### Bus clear (R63 to R65) -/

/-- BUS_CLEAR (R50, R52, R63): a free check or bus check that finds a line low for the bus-free limit goes to CLEARING, and
the moment is noted.
The pulses and the STOP run inside CLEARING and change no other state; the row that ends the clear carries how they ran
(log 14). -/
def execBusClear (x : Segment) (s : State) : Host.Outcome State Fault Refusal :=
  running s (whenever
    (((s.engine x).stage == .freeCheck || (s.engine x).stage == .busCheck) && (s.seg x).lineStuck s.elapsed)
    fun s => s.modSeg x fun g => g.withEngine fun e => { e with state := .clearing, stage := .none, waitSince := s.elapsed })

/-- The pulses and the STOP of a bus clear come to their end, each wait on SCL within the latched stretch limit (R63). -/
def State.clearReachesStop (s : State) (r : ClearRun) : Bool :=
  reachesStop r (Config.unitsPerTick * (s.engine r.segment).latched.stretch)

/-- BUS_CLEAR_SUCCESS (R51, R63, R64): the STOP is made and both lines read high after it; held work goes on with its first
START, and a clear of START's bus check leaves the segment ready. -/
def execBusClearSuccess (r : ClearRun) (s : State) : Host.Outcome State Fault Refusal :=
  let x := r.segment
  running s (whenever (((s.engine x).state == .clearing) && s.clearReachesStop r) fun s => (ownStop x s).modSeg x fun g =>
    g.withEngine fun e =>
      if e.work.isSome then { e with state := .busy, stage := .onWire } else { e with state := .idle, stage := .none })

/-- A line as a failed clear that began at a moment leaves it: high, or low for the time given or since a fall noted later,
and not since before the clear where it read high in the clear, `rose` (R50, R63; log 14). -/
def LineLevel.clearFailed (l : LineLevel) (left : Option Nat) (rose : Bool) (began now : Nat) : LineLevel :=
  match left with
  | none => l.rise
  | some k => (if rose then l.lowSince began else l).lowSince ((now : Int) - (k : Int))

/-- The lines of a segment as its failed clear leaves them (R50, R63). -/
def Seg.clearFailed (r : ClearRun) (left : LeftLow) (limit now : Nat) (g : Seg) : Seg :=
  { g with
    scl := g.scl.clearFailed left.scl (sclRose r limit) g.engine.waitSince now
    sda := g.sda.clearFailed left.sda (sdaRose r limit) g.engine.waitSince now }

/-- A bus clear fails: a wait on SCL reaches the stretch limit, so that SCL has been low for that wait, or a line reads low
after the STOP (R63). -/
def State.clearFails (s : State) (r : ClearRun) (left : LeftLow) : Bool :=
  match heldWait r (Config.unitsPerTick * (s.engine r.segment).latched.stretch) with
  | some wait => left.scl.any fun k => decide (wait ≤ k)
  | none => left.scl.isSome || left.sda.isSome

/-- A pending raw transfer of segment x is withdrawn with RAW_BUS_STUCK (R45, R65). -/
def withdrawRaw (x : Segment) (s : State) : State :=
  if (s.seg x).rawPending then
    complete WorkOutcome.busStuck.rawResult 0 (s.modSeg x fun g => { g with rawPending := false })
  else s

/-- The BUS_STUCK record of a segment (R65). -/
def busStuckRecord (x : Segment) : Body :=
  .fault none none .busStuck none (match x with | .a => 0 | .b => 1)

/-- BUS_CLEAR_FAIL (R28, R38, R63, R65, R67): the segment is FAULTED, its lists are emptied, the work ends with BUS_STUCK, a
pending raw transfer is withdrawn, the BUS_STUCK record is admitted, SEGERR is set, and a drain that waited for this
engine alone ends. -/
def execBusClearFail (r : ClearRun) (left : LeftLow) (s : State) : Host.Outcome State Fault Refusal :=
  let x := r.segment
  running s (whenever (((s.engine x).state == .clearing) && s.clearFails r left) fun s =>
    let s1 := emptyLists x (s.modSeg x
      (Seg.clearFailed r left (Config.unitsPerTick * (s.engine x).latched.stretch) s.elapsed))
    let s2 :=
      match (s.engine x).work with
      | some w => finishWork x w .busStuck [] .faulted s1
      | none => releaseEngine x .faulted s1
    let s3 := setSegerr (admitRecords [busStuckRecord x] (withdrawRaw x s2))
    if (s3.collector = .stopping) ∧ s3.drained then enterStopped s3 else s3)

end Sys2Proof.Machine
end

