-- ==== Sys2Proof/Machine/Collector.lean ====
section
/-! DEFINITION. The Scheduler: START and STOP, the collector's two entries, due-time events, attention inputs, and the
segment arbiters (chapter 2). -/

namespace Sys2Proof.Machine

/-! ### Attention (R39, R40) -/

/-- An attention event on segment x: every qualifying entry joins the Due List in the attention class or is promoted to
it; none when the segment is FAULTED (R40). -/
def attentionEvent (x : Segment) (s : State) : State :=
  if (s.engine x).state = .faulted then s
  else s.mapEntries fun n e =>
    if e.defined && e.d.attention && (s.entrySegment n == x) && (s.target e.d.target).available then
      { e with due := some .attention }
    else e

/-- ATTN_FALLING_EDGE (R39): the filtered level goes low; an armed detector becomes spent, and in RUNNING with the enable
set an attention event follows. During a hard reset only the level is followed (R166). -/
def execAttnFallingEdge (x : Segment) (s : State) : Host.Outcome State Fault Refusal :=
  let edge := (s.seg x).attnHigh && (s.seg x).attnArmed
  let s1 := s.modSeg x fun g => { g with attnHigh := false, attnArmed := false }
  .next (if !s.inReset && edge && (s.collector == .running) && (s.seg x).attnEnable then attentionEvent x s1 else s1)

/-- ATTN_REARM (R39): the filtered level returns high and re-arms the detector. -/
def execAttnRearm (x : Segment) (s : State) : Host.Outcome State Fault Refusal :=
  .next (s.modSeg x fun g => { g with attnHigh := true, attnArmed := true })

/-! ### START (R25, R26, R52, R86, R149) -/

/-- A DEFINED entry at the entry into RUNNING at tick count `now` (R26). -/
def Entry.started (now : Long) (e : Entry) : Entry :=
  if e.defined then
    { e with nextDue := now + e.d.phase.setWidth 32, overrun := 0, stable := .normal, run := none, meanSum := 0,
             meanHeld := 0, last := 0, lastExists := false }
  else e

/-- A target at the entry into RUNNING: HELD stays, any other enabled target is ACTIVE again (R86). -/
def Target.started (g : Target) : Target :=
  if g.d.enabled && (g.health != .held) then
    { g with health := .active, failures := 0, remaining := 0, current := g.d.baseBackoff.toNat }
  else g

/-- At the entry into RUNNING a low, enabled attention input of a segment that is not FAULTED counts as a falling edge
(R26). -/
def startAttention (x : Segment) (s : State) : State :=
  if ((s.engine x).state != .faulted) && (s.seg x).attnEnable && !(s.seg x).attnHigh then
    attentionEvent x (s.modSeg x fun g => { g with attnArmed := false })
  else s

/-- The collector enters RUNNING, and START completes with OK (R25, R26, R86). -/
def enterRunning (s : State) : State :=
  let s1 := { s with collector := .running }
  let s2 := s1.mapEntries fun _ e => e.started s.tickCount
  let s3 := reevaluateLimit (s2.mapTargets Target.started)
  completeOk (startAttention .b (startAttention .a s3))

/-- Both segments have finished preparing (R25). -/
def State.prepared (s : State) : Bool := !s.segA.preparing && !s.segB.preparing

/-- START (R25, R149): STATE unless STOPPED; otherwise both segments are latched and checked, and the collector enters
RUNNING at once when both are ready. -/
def execStart (s : State) : Host.Outcome State Fault Refusal :=
  command 0x01#8 (fun s =>
    if s.collector ≠ .stopped then complete resState 0 s
    else
      let s1 := beginWait .start (s.mapSegs fun g => g.latch.busCheck)
      if s1.prepared then enterRunning s1 else s1) s

/-- COLLECTOR_ENTER_RUNNING (R25, R26): START waits, and both segments have finished preparing. -/
def execCollectorEnterRunning (s : State) : Host.Outcome State Fault Refusal :=
  running s (whenever ((s.cu.wait == some .start) && s.prepared) enterRunning)

/-! ### STOP (R27, R28, R150) -/

/-- STOP (R27, R150): STATE unless RUNNING; otherwise the lists are emptied and the collector is STOPPING, or STOPPED at
the same event when nothing is left to drain. -/
def execStop (s : State) : Host.Outcome State Fault Refusal :=
  command 0x02#8 (fun s =>
    if s.collector ≠ .running then complete resState 0 s
    else
      let s1 := beginWait .stop { emptyLists .b (emptyLists .a s) with collector := .stopping }
      if s1.drained then enterStopped s1 else s1) s

/-- COLLECTOR_ENTER_STOPPED (R28): the drain has ended. -/
def execCollectorEnterStopped (s : State) : Host.Outcome State Fault Refusal :=
  running s (whenever ((s.collector == .stopping) && s.drained) enterStopped)

/-! ### Due-time events (R30 to R32) -/

/-- Entry n falls due: RUNNING, scheduled, its next-due tick reached (R30). -/
def State.fallsDue (s : State) (n : EntryNo) : Bool :=
  (s.collector == .running) && (s.entry n).defined && ((s.entry n).d.tier != 0) && reached (s.entry n).nextDue s.tickCount

/-- The entry sleeps: its target may not be polled, or its segment is FAULTED (R7, R31). -/
def State.sleeps (s : State) (n : EntryNo) : Bool :=
  !(s.target (s.entry n).d.target).available || ((s.engine (s.entrySegment n)).state == .faulted)

/-- The entry after a due-time event: the next-due tick advances by one period, then skip, overrun or join (R30, R31). -/
def Entry.fallDue (e : Entry) (sleeps : Bool) : Entry :=
  let e1 := { e with nextDue := e.nextDue + e.d.period.setWidth 32 }
  if sleeps then e1
  else if e.due.isSome then { e1 with overrun := min Config.overrunMax (e.overrun + 1) }
  else { e1 with due := some (.scheduled e.nextDue) }

/-- DUE_TIME_EVENT of entry n (R30, R31, R32). -/
def execDueTimeEvent (n : EntryNo) (s : State) : Host.Outcome State Fault Refusal :=
  running s (whenever (s.fallsDue n) fun s => s.setEntry n ((s.entry n).fallDue (s.sleeps n)))

/-! ### The arbiters (R42 to R45) -/

/-- What an arbiter chooses (R43). -/
inductive Choice where
  | raw
  | poll (n : EntryNo) (cause : Cause)
  deriving DecidableEq, Repr

/-- Scheduled member `(tier, join tick)` p ranks ahead of q: lower tier number, then earlier join due tick (R43). -/
def ranksAhead (p q : BitVec 2 × Long) : Bool := decide (p.1 < q.1) || ((p.1 == q.1) && earlier p.2 q.2)

/-- The first attention-class member, lowest entry number first (R43 rank 3). -/
def firstAttention : List (EntryNo × DueClass) → Option EntryNo
  | [] => none
  | (n, .attention) :: _ => some n
  | (_, .scheduled _) :: rest => firstAttention rest

/-- The best scheduled-class member: of two equal ones the earlier in the list, which is the lower entry number, stays
(R43 rank 4).
DESIGN CHOICE (log 33): where join due ticks of one tier lie 2^31 or more ticks apart, R23's order need not give an
earliest one; members are then compared one by one, lowest entry number first, and the one in hand stays unless the next
ranks ahead of it. -/
def State.bestScheduled (s : State) (ms : List (EntryNo × DueClass)) : Option (EntryNo × Long) :=
  ms.foldl (fun best m =>
    match m.2 with
    | .attention => best
    | .scheduled j =>
      match best with
      | none => some (m.1, j)
      | some b => if ranksAhead ((s.entry m.1).d.tier, j) ((s.entry b.1).d.tier, b.2) then some (m.1, j) else best) none

/-- The choice of segment x's arbiter (R43): in STOPPED a raw transfer only. -/
def State.choose (s : State) (x : Segment) : Option Choice :=
  if (s.seg x).rawPending then some .raw
  else if s.collector = .stopped then none
  else
    match (s.seg x).oneShot with
    | n :: _ => some (.poll n .oneShot)
    | [] =>
      match firstAttention (s.dueList x) with
      | some n => some (.poll n .attention)
      | none => (s.bestScheduled (s.dueList x)).map fun b => .poll b.1 .scheduled

/-- The arbiters may consider their lists: every due-time event of the tick has been taken (R30). -/
def State.joinsMade (s : State) : Bool := allEntries.all fun n => !s.fallsDue n

/-- The hand-over of a poll of entry n (R44). -/
def State.pollWork (s : State) (n : EntryNo) (cause : Cause) : PollWork :=
  let e := s.entry n
  let g := s.target e.d.target
  { entry := n, target := e.d.target, address := g.d.address, pointer := e.d.pointer, pointerPresent := e.d.pointerPresent,
    length := e.d.length, check := g.d.check, stopBetween := g.d.stopBetween, cause := cause,
    probe := g.health == .probing }

/-- A poll of entry n is taken: it leaves both lists, is in flight, and the engine takes it (R44, R46). -/
def takePoll (x : Segment) (n : EntryNo) (cause : Cause) (s : State) : State :=
  let w := s.pollWork n cause
  let s1 := unlist n s
  let s2 := s1.setEntry n { s1.entry n with inFlight := true }
  s2.modSeg x (Seg.takeWork s.elapsed (.poll w))

/-- The pending raw transfer of segment x is taken: the wait reason becomes 06h, in STOPPED the configuration is latched
afresh, and the engine takes it (R45, R48, R146). -/
def takeRaw (x : Segment) (s : State) : State :=
  match s.cu.wait with
  | some (.raw _ r) =>
    let s1 := { s with cu := { s.cu with wait := some (.raw .onSegment r) } }
    s1.modSeg x fun g =>
      let g1 := { g with rawPending := false }
      (if s.collector = .stopped then g1.latch else g1).takeWork s.elapsed (.raw r)
  | _ => s

/-- SELECTION_OCCASION of segment x (R42, R43): the segment is free, the joins are made, and something is waiting. -/
def execSelectionOccasion (x : Segment) (s : State) : Host.Outcome State Fault Refusal :=
  running s (whenever (s.free x && s.joinsMade) fun s =>
    match s.choose x with
    | none => s
    | some .raw => takeRaw x s
    | some (.poll n cause) => takePoll x n cause s)

end Sys2Proof.Machine
end

