-- ==== Sys2Proof/Machine/Commands.lean ====
section
/-! DEFINITION. The remaining commands of the Command Unit: POLL_NOW, RAW_TRANSFER, MARK, FLUSH, ABORT and unknown codes
(chapter 8). -/

namespace Sys2Proof.Machine

/-- POLL_NOW is refused with STATE for entry n (R36, R155). -/
def State.pollRefused (s : State) (n : EntryNo) : Bool :=
  (s.collector != .running) || !(s.entry n).defined || s.sleeps n

/-- POLL_NOW (R36, R155): RANGE, STATE, FULL, DUPLICATE, else the request joins the One-Shot List at its tail. -/
def execPollNow (s : State) : Host.Outcome State Fault Refusal :=
  command 0x07#8 (fun s =>
    match s.entryArg with
    | none => complete resRange 0 s
    | some n =>
      let x := s.entrySegment n
      if s.pollRefused n then complete resState 0 s
      else if Config.oneShotMax ≤ (s.seg x).oneShot.length then complete resFull 0 s
      else if (s.seg x).oneShot.contains n then complete resDuplicate 0 s
      else completeOk (s.modSeg x fun g => { g with oneShot := g.oneShot ++ [n] })) s

/-- Byte k of the raw registers. -/
def State.rawByte (s : State) (k : Nat) : Byte := Memory.read s.mem (rawBase + k)

/-- The raw parameters as the registers give them; the first write-count bytes of the buffer are the write bytes (R68,
R173). -/
def State.rawParams (s : State) : RawParams where
  segment := segmentOf ((s.rawByte 0).getLsbD 7)
  address := (s.rawByte 0).extractLsb' 0 7
  write := (List.range (s.rawByte 1).toNat).map fun i => Memory.read s.mem (rawBufferBase + i)
  readCount := Fin.ofNat 17 (s.rawByte 2).toNat
  check := (s.rawByte 3).getLsbD 0
  stopBetween := (s.rawByte 3).getLsbD 1

/-- RAW_TRANSFER (R45, R157): INVALID 1 or 2 for a count above 16, STATE for a FAULTED segment, else the transfer becomes
its segment's pending raw transfer. -/
def execRawTransfer (s : State) : Host.Outcome State Fault Refusal :=
  command 0x0A#8 (fun s =>
    if 16 < (s.rawByte 1).toNat then complete resInvalid 1 s
    else if 16 < (s.rawByte 2).toNat then complete resInvalid 2 s
    else if (s.engine s.rawParams.segment).state = .faulted then complete resState 0 s
    else (beginWait (.raw .pending s.rawParams) s).modSeg s.rawParams.segment fun g => { g with rawPending := true }) s

/-- MARK (R130, R158): OK when the Mark record is written, LOST when it is lost. -/
def execMark (s : State) : Host.Outcome State Fault Refusal :=
  command 0x0B#8 (fun s =>
    let a := s.queue.admitOne s.ctrl.evict s.port.pinned s.stamp (.mark s.cu.arg)
    complete (if a.written then resOk else resLost) 0
      { s with queue := a.queue, sticky := { s.sticky with loss := s.sticky.loss || a.loss } }) s

/-- FLUSH (R129, R158). -/
def execFlush (s : State) : Host.Outcome State Fault Refusal :=
  command 0x0C#8 (fun s =>
    completeOk { s with queue := Queue.reset, sticky := { s.sticky with loss := false } }) s

/-- What ABORT does by the wait reason; CMD takes the code where ABORT is taken (R159). -/
def abortBody (s : State) : State :=
  let s1 := takeCode 0x0F#8 s
  match s.cu.wait with
  | none => completeOk s1
  | some .start => notTaken s
  | some .stop => notTaken s
  | some (.entryLoad _ _) => complete resAborted 0 s1
  | some (.targetLoad _ _) => complete resAborted 0 s1
  | some (.raw .pending r) => complete resAborted 0 (s1.modSeg r.segment fun g => { g with rawPending := false })
  | some (.raw .onSegment r) => { s1 with cu := { s1.cu with wait := some (.raw .aborted r) } }
  | some (.raw .aborted _) => s1

/-- ABORT (R159). -/
def execAbort (s : State) : Host.Outcome State Fault Refusal := writeByte 0x04#7 abortBody s

/-- The code names one of the thirteen commands (R147). -/
def namesCommand (code : Byte) : Bool :=
  [0x01#8, 0x02#8, 0x03#8, 0x04#8, 0x05#8, 0x06#8, 0x07#8, 0x08#8, 0x09#8, 0x0A#8, 0x0B#8, 0x0C#8, 0x0F#8].contains code

/-- UNKNOWN (R148): a code that names no command completes with UNKNOWN. A code that names one is not this command. -/
def execUnknown (code : Byte) (s : State) : Host.Outcome State Fault Refusal :=
  if namesCommand code then .next s else command code (complete resUnknown 0) s

end Sys2Proof.Machine
end

