-- ==== Sys2Proof/Machine/HostPort.lean ====
section
/-! DEFINITION. The Host Port and the registers: transactions, the register map's reads, register writes, snapshots, the
Read Port, interrupt registers, CTRL, and the two kinds of reset (chapters 7, 9 and 10). -/

namespace Sys2Proof.Machine

/-! ### Reading the register map (section 10.4, R169 to R171) -/

/-- STATE (03h). -/
def State.stateByte (s : State) : Byte :=
  BitVec.ofBool s.limit ++ BitVec.ofBool s.busy ++ s.segB.engine.state.code ++ s.segA.engine.state.code
    ++ s.collector.code

/-- CTRL (02h): bit 0 reads 0, bits 7 to 4 are reserved. -/
def State.ctrlByte (s : State) : Byte :=
  0#4 ++ BitVec.ofBool s.ctrl.limitActiveHigh ++ BitVec.ofBool s.ctrl.irqPushPull ++ BitVec.ofBool s.ctrl.evict ++ 0#1

/-- CMD_RESULT (06h): PENDING while the unit is BUSY (R146). -/
def State.resultByte (s : State) : Byte := if s.busy then resPending else s.cu.result

/-- CMD_DETAIL (07h): the wait reason while the unit is BUSY (R146). -/
def State.detailByte (s : State) : Byte :=
  match s.cu.wait with
  | some w => w.reason
  | none => s.cu.detail

/-- ATTN_CTRL (0Ah). -/
def State.attnCtrlByte (s : State) : Byte :=
  0#2 ++ BitVec.ofBool s.segB.attnHigh ++ BitVec.ofBool s.segA.attnHigh ++ 0#2 ++ BitVec.ofBool s.segB.attnEnable
    ++ BitVec.ofBool s.segA.attnEnable

/-- A mode register (20h, 24h). -/
def Seg.modeByte (g : Seg) : Byte := 0#6 ++ BitVec.ofBool g.cfgMulti ++ BitVec.ofBool g.cfgFast

/-- FILL as a 16-bit counter. -/
def State.fillCounter (s : State) : Half := BitVec.ofNat 16 s.queue.fill

/-- LOSS_TOTAL as a 32-bit counter. -/
def State.lossCounter (s : State) : Long := BitVec.ofNat 32 s.queue.lossTotal

/-- A window address that is plain storage: the images, the raw registers and the raw buffer (section 10.4). -/
def storageAddr (a : Nat) : Bool :=
  decide ((0x30 ≤ a ∧ a ≤ 0x53) ∨ (0x58 ≤ a ∧ a ≤ 0x5B) ∨ (0x60 ≤ a ∧ a ≤ 0x6F))

/-- The byte QUEUE_DATA delivers: the Empty marker, or the byte of the head record at the cursor (R133). -/
def State.queueByte (s : State) : Byte :=
  match s.queue.records with
  | [] => 0x00#8
  | r :: _ => r.bytes.getD s.port.cursor 0

/-- The byte a read of window address a delivers as the state stands (section 10.4). A low byte of a snapshot counter is
the current value, which that read latches; the higher bytes are the latch (R170). Unlisted addresses read 00h. -/
def State.readReg (s : State) (a : RegAddr) : Byte :=
  match a.toNat with
  | 0x00 => Config.deviceId
  | 0x01 => Config.revision
  | 0x02 => s.ctrlByte
  | 0x03 => s.stateByte
  | 0x04 => s.cu.cmd
  | 0x05 => s.cu.arg
  | 0x06 => s.resultByte
  | 0x07 => s.detailByte
  | 0x08 => s.intFlags
  | 0x09 => s.intEnable
  | 0x0A => s.attnCtrlByte
  | 0x0C => longByte s.bandPending 0
  | 0x0D => longByte s.bandPending 1
  | 0x0E => longByte s.bandPending 2
  | 0x0F => longByte s.bandPending 3
  | 0x10 => longByte s.stamp 0
  | 0x11 => longByte s.host.stampLatch 1
  | 0x12 => longByte s.host.stampLatch 2
  | 0x13 => longByte s.host.stampLatch 3
  | 0x14 => loByte s.fillCounter
  | 0x15 => hiByte s.host.fillLatch
  | 0x16 => loByte (BitVec.ofNat 16 s.watermark)
  | 0x17 => hiByte (BitVec.ofNat 16 s.watermark)
  | 0x18 => longByte s.lossCounter 0
  | 0x19 => longByte s.host.lossLatch 1
  | 0x1A => longByte s.host.lossLatch 2
  | 0x1B => longByte s.host.lossLatch 3
  | 0x1C => s.queueByte
  | 0x20 => s.segA.modeByte
  | 0x21 => s.segA.cfgStretch
  | 0x22 => s.segA.cfgBusFree
  | 0x24 => s.segB.modeByte
  | 0x25 => s.segB.cfgStretch
  | 0x26 => s.segB.cfgBusFree
  | n => if storageAddr n then Memory.read s.mem n else 0x00#8

/-- The byte SDO shifts out: 00h while the command byte or a written byte is shifted in; in a read run the data byte in
progress, fixed at its byte start (R133, R168). None while CSN is high, in reset, outside a transaction, where SDO is
released, and between the data bytes of a read run. -/
def State.sdo (s : State) : Option Byte :=
  if s.inReset || !s.host.csnLow then none
  else
    match s.host.framing with
    | .noTransaction => none
    | .awaitingCommand => some 0x00#8
    | .writeRun => some 0x00#8
    | .readRun => s.host.byteOut.map ByteOut.value

/-! ### Resets (R19, R20, R29, R71, R72, R88, R108, R131, R144, R167, R172) -/

/-- A segment in a hard reset: its hard-reset state, with the pins' levels as they are. -/
def Seg.hardReset (g : Seg) : Seg :=
  { Seg.reset with attnHigh := g.attnHigh, attnArmed := g.attnHigh, scl := g.scl, sda := g.sda }

/-- HARD_RESET (R167): every block takes its hard-reset state and holds it; the levels at the pins, the commands that wait
and the free-value counter are not the part's to reset. -/
def execHardReset (s : State) : Host.Outcome State Fault Refusal :=
  .next
    { State.reset with
      inReset := true
      host := { HostPort.reset with csnLow := s.host.csnLow }
      segA := s.segA.hardReset
      segB := s.segB.hardReset
      pending := s.pending
      freeIndex := s.freeIndex }

/-- A line at the end of a hard reset: one that reads low has been low for an unknown time, a free value (log 16). -/
def LineLevel.released (l : LineLevel) (k : Nat) : LineLevel :=
  if l.high then l else { l with fell := -((Config.lineAgeAtRelease k : Nat) : Int) }

/-- A segment at the end of a hard reset: the edge detector follows the input's level (R29, R166). -/
def Seg.released (g : Seg) (k : Nat) : Seg :=
  { g with attnArmed := g.attnHigh, scl := g.scl.released k, sda := g.sda.released (k + 1) }

/-- HARD_RESET_END (R167): the part begins to respond, the Timebase from 0. A transaction opens only at a later fall of
CSN. -/
def execHardResetEnd (s : State) : Host.Outcome State Fault Refusal :=
  .next (whenever s.inReset (fun s =>
    { s with
      inReset := false
      elapsed := 0
      segA := s.segA.released s.freeIndex
      segB := s.segB.released (s.freeIndex + 2)
      freeIndex := s.freeIndex + 4 }) s)

/-- A line's last fall as the count of elapsed time restarts: the moment itself stays what it was (R50; log 17). -/
def LineLevel.rebase (l : LineLevel) (now : Nat) : LineLevel := { l with fell := l.fell - now }

/-- A segment at a soft reset: registers, engine, lists and enable at their reset values, the detector from the level
(R29, R46, R48, R71, R166). -/
def Seg.softReset (g : Seg) (now : Nat) : Seg :=
  { Seg.reset with attnHigh := g.attnHigh, attnArmed := g.attnHigh, scl := g.scl.rebase now, sda := g.sda.rebase now }

/-- An entry at a soft reset: definition and lifecycle kept, live state reset, in flight cleared (R20). -/
def Entry.softReset (e : Entry) : Entry := { e.liveReset with inFlight := false }

/-- A target at a soft reset: definition kept, health reset (R20, R88). -/
def Target.softReset (g : Target) : Target := Target.loaded g.d

/-- The soft reset takes effect (R20, R172): every block takes its soft-reset values. -/
def softReset (s : State) : State :=
  let s1 := (s.mapEntries fun _ e => e.softReset).mapTargets Target.softReset
  reevaluateLimit
    { s1 with
      elapsed := 0
      host := { HostPort.reset with csnLow := s.host.csnLow }
      ctrl := Ctrl.reset
      watermark := 0
      cu := CommandUnit.reset
      sticky := Sticky.reset
      intEnable := 0
      bandPending := 0
      collector := .stopped
      segA := s.segA.softReset s.elapsed
      segB := s.segB.softReset s.elapsed
      queue := Queue.reset
      port := ReadPort.reset
      mem := [] }

/-! ### Transactions (R136, R168, R172) -/

/-- TRANSACTION_OPEN (R167, R168): a fall of CSN; in a hard reset no transaction opens. -/
def execTransactionOpen (s : State) : Host.Outcome State Fault Refusal :=
  .next (whenever (!s.host.csnLow) (fun s =>
    { s with host := { s.host with csnLow := true, framing := if s.inReset then .noTransaction else .awaitingCommand } }) s)

/-- COMMAND_BYTE (R168): bit 7 gives the direction, bits 6 to 0 the starting address. -/
def execCommandByte (b : Byte) (s : State) : Host.Outcome State Fault Refusal :=
  running s (whenever (s.host.framing == .awaitingCommand) fun s =>
    { s with host := { s.host with framing := if b.getLsbD 7 then .readRun else .writeRun, pointer := b.extractLsb' 0 7 } })

/-- CSN rises: a burst ends with the cursor at 0 and nothing pinned (R136), a partial byte is discarded, no transaction
remains (R168), and a soft reset that was requested takes effect (R172). -/
def endTransaction (s : State) : State :=
  let s1 := { s with
    host := { s.host with csnLow := false, framing := .noTransaction, burstOpen := false, byteOut := none }
    port := ReadPort.reset }
  if s.host.resetRequested then softReset s1 else s1

/-- TRANSACTION_END (R136, R168, R172): CSN rises. -/
def execTransactionEnd (s : State) : Host.Outcome State Fault Refusal :=
  .next (whenever s.host.csnLow endTransaction s)

/-- SOFT_RESET_EFFECT (R20, R71, R172): CSN rises in a transaction that has requested a soft reset (log 6). -/
def execSoftResetEffect (s : State) : Host.Outcome State Fault Refusal :=
  .next (whenever (s.host.csnLow && s.host.resetRequested) endTransaction s)

/-! ### Registers written byte by byte -/

/-- A CTRL byte takes effect: the three held bits at once, bit 0 as a request for a soft reset (R127, R164, R165, R172). -/
def writeCtrl (v : Byte) (s : State) : State :=
  { s with
    ctrl := { evict := v.getLsbD 1, irqPushPull := v.getLsbD 2, limitActiveHigh := v.getLsbD 3 }
    host := { s.host with resetRequested := s.host.resetRequested || v.getLsbD 0 } }

/-- SOFT_RESET (R172): a CTRL byte with bit 0 set (log 5). -/
def execSoftReset (v : Byte) (s : State) : Host.Outcome State Fault Refusal := writeByte 0x02#7 (writeCtrl v) s

/-- EVICT (R127): a CTRL byte; its bit 1 selects the overflow mode of later admissions. -/
def execEvict (v : Byte) (s : State) : Host.Outcome State Fault Refusal := writeByte 0x02#7 (writeCtrl v) s

/-- IRQ_PUSHPULL (R164): a CTRL byte; its bit 2 selects the IRQ pin's drive type. -/
def execIrqPushPull (v : Byte) (s : State) : Host.Outcome State Fault Refusal := writeByte 0x02#7 (writeCtrl v) s

/-- LIMIT_ACTIVE_HIGH (R165): a CTRL byte; its bit 3 selects the LIMIT pin's polarity. -/
def execLimitActiveHigh (v : Byte) (s : State) : Host.Outcome State Fault Refusal := writeByte 0x02#7 (writeCtrl v) s

/-- INT_FLAGS_WRITE (R162). -/
def execIntFlagsWrite (v : Byte) (s : State) : Host.Outcome State Fault Refusal :=
  writeByte 0x08#7 (fun s => { s with sticky := s.sticky.clear v }) s

/-- INT_ENABLE_WRITE (R163). -/
def execIntEnableWrite (v : Byte) (s : State) : Host.Outcome State Fault Refusal :=
  writeByte 0x09#7 (fun s => { s with intEnable := v }) s

/-- A byte written to BAND_PENDING byte i clears the bits written as 1 (R105, R162). -/
def clearPendingByte (i : Nat) (v : Byte) (s : State) : State :=
  { s with bandPending := s.bandPending &&& ~~~(v.setWidth 32 <<< (8 * i)) }

/-- BAND_PENDING_WRITE (R105, R162, R169): a byte written at one of 0Ch to 0Fh. -/
def execBandPendingWrite (v : Byte) (s : State) : Host.Outcome State Fault Refusal :=
  let p := s.host.pointer
  running s (whenever ((s.host.framing == .writeRun) && decide (0x0C#7 ≤ p ∧ p ≤ 0x0F#7))
    fun s => advance (clearPendingByte (p.toNat - 0x0C) v s))

/-- WATERMARK_LOW_WRITE (R171). -/
def execWatermarkLowWrite (v : Byte) (s : State) : Host.Outcome State Fault Refusal :=
  writeByte 0x16#7 (fun s => { s with host := { s.host with heldLow := v } }) s

/-- WATERMARK_HIGH_WRITE (R141, R171). -/
def execWatermarkHighWrite (v : Byte) (s : State) : Host.Outcome State Fault Refusal :=
  writeByte 0x17#7 (fun s => { s with watermark := min Config.watermarkMax (256 * v.toNat + s.host.heldLow.toNat) }) s

/-- The addresses whose write has a row of its own: CTRL, CMD, INT_FLAGS, INT_ENABLE, BAND_PENDING, WATERMARK. -/
def ownWriteRow (a : Nat) : Bool :=
  decide (a = 0x02 ∨ a = 0x04 ∨ a = 0x08 ∨ a = 0x09 ∨ (0x0C ≤ a ∧ a ≤ 0x0F) ∨ a = 0x16 ∨ a = 0x17)

/-- What a byte written at an address without behaviour of its own stores; read-only and unlisted addresses and 1Ch ignore
it (R139, R144, R169, section 10.4). -/
def storeReg (a : Nat) (v : Byte) (s : State) : State :=
  match a with
  | 0x05 => { s with cu := { s.cu with arg := v } }
  | 0x0A =>
    { s with segA := { s.segA with attnEnable := v.getLsbD 0 }, segB := { s.segB with attnEnable := v.getLsbD 1 } }
  | 0x20 => { s with segA := { s.segA with cfgFast := v.getLsbD 0, cfgMulti := v.getLsbD 1 } }
  | 0x21 => { s with segA := { s.segA with cfgStretch := v } }
  | 0x22 => { s with segA := { s.segA with cfgBusFree := v } }
  | 0x24 => { s with segB := { s.segB with cfgFast := v.getLsbD 0, cfgMulti := v.getLsbD 1 } }
  | 0x25 => { s with segB := { s.segB with cfgStretch := v } }
  | 0x26 => { s with segB := { s.segB with cfgBusFree := v } }
  | n => if storageAddr n then { s with mem := Memory.write s.mem n v } else s

/-- REGISTER_WRITE (R139, R144, R169): a byte written at an address without behaviour of its own. -/
def execRegisterWrite (v : Byte) (s : State) : Host.Outcome State Fault Refusal :=
  let a := s.host.pointer.toNat
  running s (whenever ((s.host.framing == .writeRun) && !ownWriteRow a) fun s => advance (storeReg a v s))

/-! ### Data bytes of a read run (R133 to R135, R139, R168, R170) -/

/-- A read at this address has an effect: the low bytes of the snapshot counters, and QUEUE_DATA. -/
def readHasEffect (p : RegAddr) : Bool := (p == 0x10#7) || (p == 0x14#7) || (p == 0x18#7) || (p == 0x1C#7)

/-- A read run at p comes to address a over bytes whose reading has no effect, at most k of them (R168; log 4). -/
def runsTo : Nat → RegAddr → RegAddr → Bool
  | 0, p, a => p == a
  | k + 1, p, a => (p == a) || (!readHasEffect p && runsTo k (p + 1) a)

/-- The address of the next data byte to start in the read run in progress: the pointer's, or the one behind it when the
byte of a register is being shifted out, which the next start completes (R168). A byte of QUEUE_DATA completes first. -/
def State.nextRead (s : State) : Option RegAddr :=
  if s.host.framing = .readRun then
    match s.host.byteOut with
    | none => some s.host.pointer
    | some b => if b.source = .register then some (nextPointer s.host.pointer) else none
  else none

/-- The next byte start with an effect of the read run in progress can be that of address a. -/
def State.readsAt (s : State) (a : RegAddr) : Bool :=
  match s.nextRead with
  | some p => runsTo 127 p a
  | none => false

/-- The address whose byte starts: a counter's low byte where the run can come to it (R170), or the next address of the run
where its reading has no effect (R168). -/
def State.readStart (s : State) (c : ReadByte) : Option RegAddr :=
  match c with
  | .stamp => if s.readsAt 0x10#7 then some 0x10#7 else none
  | .fill => if s.readsAt 0x14#7 then some 0x14#7 else none
  | .lossTotal => if s.readsAt 0x18#7 then some 0x18#7 else none
  | .plain => s.nextRead.filter fun p => !readHasEffect p

/-- The whole counter is copied into its latch (R170). -/
def latchCounter (c : ReadByte) (s : State) : State :=
  match c with
  | .stamp => { s with host := { s.host with stampLatch := s.stamp } }
  | .fill => { s with host := { s.host with fillLatch := s.fillCounter } }
  | .lossTotal => { s with host := { s.host with lossLatch := s.lossCounter } }
  | .plain => s

/-- SNAPSHOT_LATCH (R168, R170): a data byte outside QUEUE_DATA starts; its value is fixed, and a counter is latched. The
pointer stays at the byte until it completes. -/
def execSnapshotLatch (c : ReadByte) (s : State) : Host.Outcome State Fault Refusal :=
  running s fun s =>
    match s.readStart c with
    | none => s
    | some a =>
      let s1 := latchCounter c s
      { s1 with host := { s1.host with pointer := a, byteOut := some { value := s.readReg a, source := .register } } }

/-- QUEUE_DATA_BYTE_START (R132, R133, R137, R139): the byte's value is fixed, a header byte pins the head record, and the
burst is open. -/
def execQueueDataByteStart (s : State) : Host.Outcome State Fault Refusal :=
  running s (whenever (s.readsAt 0x1C#7) fun s =>
    let empty := s.queue.records.isEmpty
    { s with
      host := { s.host with pointer := 0x1C#7, burstOpen := true,
                            byteOut := some { value := s.queueByte, source := if empty then .emptyMarker else .record } }
      port := { s.port with pinned := s.port.pinned || !empty } })

/-- A whole byte of the head record has been read: the cursor rises, or with the last byte the record is released (R134,
R135). -/
def recordByteRead (s : State) : State :=
  match s.queue.records with
  | [] => s
  | r :: _ =>
    if s.port.cursor + 1 < r.size then { s with port := { s.port with cursor := s.port.cursor + 1 } }
    else { s with queue := s.queue.release, port := ReadPort.reset }

/-- QUEUE_DATA_BYTE_COMPLETE (R134, R135, R137, R168): the data byte in progress counts as read. A register's byte has no
further effect, and the pointer moves on (log 4). -/
def execQueueDataByteComplete (s : State) : Host.Outcome State Fault Refusal :=
  running s fun s =>
    match s.host.byteOut with
    | none => s
    | some b =>
      let s1 := { s with host := { s.host with byteOut := none } }
      match b.source with
      | .register => advance s1
      | .emptyMarker => s1
      | .record => recordByteRead s1

end Sys2Proof.Machine
end

