-- ==== Sys2Proof/Machine/Dispatch.lean ====
section
/-! DEFINITION. One arm per command: the meaning of each row of spec/opcode_table.json, in the table's order. -/

namespace Sys2Proof.Machine

/-- What a command does to everything but the queue of commands. -/
def exec (i : Instr) (s : State) : Host.Outcome State Fault Refusal :=
  match i with
  | .commandByte b => Sys2Proof.Machine.execCommandByte b s
  | .transactionEnd => Sys2Proof.Machine.execTransactionEnd s
  | .softReset v => Sys2Proof.Machine.execSoftReset v s
  | .softResetEffect => Sys2Proof.Machine.execSoftResetEffect s
  | .hardReset => Sys2Proof.Machine.execHardReset s
  | .hardResetEnd => Sys2Proof.Machine.execHardResetEnd s
  | .queueDataByteStart => Sys2Proof.Machine.execQueueDataByteStart s
  | .queueDataByteComplete => Sys2Proof.Machine.execQueueDataByteComplete s
  | .snapshotLatch c => Sys2Proof.Machine.execSnapshotLatch c s
  | .watermarkLowWrite v => Sys2Proof.Machine.execWatermarkLowWrite v s
  | .watermarkHighWrite v => Sys2Proof.Machine.execWatermarkHighWrite v s
  | .intFlagsWrite v => Sys2Proof.Machine.execIntFlagsWrite v s
  | .bandPendingWrite v => Sys2Proof.Machine.execBandPendingWrite v s
  | .intEnableWrite v => Sys2Proof.Machine.execIntEnableWrite v s
  | .evict v => Sys2Proof.Machine.execEvict v s
  | .irqPushPull v => Sys2Proof.Machine.execIrqPushPull v s
  | .limitActiveHigh v => Sys2Proof.Machine.execLimitActiveHigh v s
  | .registerWrite v => Sys2Proof.Machine.execRegisterWrite v s
  | .start => Sys2Proof.Machine.execStart s
  | .collectorEnterRunning => Sys2Proof.Machine.execCollectorEnterRunning s
  | .stop => Sys2Proof.Machine.execStop s
  | .collectorEnterStopped => Sys2Proof.Machine.execCollectorEnterStopped s
  | .entryLoad => Sys2Proof.Machine.execEntryLoad s
  | .entryFetch => Sys2Proof.Machine.execEntryFetch s
  | .targetLoad => Sys2Proof.Machine.execTargetLoad s
  | .targetFetch => Sys2Proof.Machine.execTargetFetch s
  | .deferredLoadEnd x w => Sys2Proof.Machine.execDeferredLoadEnd x w s
  | .pollNow => Sys2Proof.Machine.execPollNow s
  | .targetRelease => Sys2Proof.Machine.execTargetRelease s
  | .targetHold => Sys2Proof.Machine.execTargetHold s
  | .rawTransfer => Sys2Proof.Machine.execRawTransfer s
  | .mark => Sys2Proof.Machine.execMark s
  | .flush => Sys2Proof.Machine.execFlush s
  | .abort => Sys2Proof.Machine.execAbort s
  | .unknown c => Sys2Proof.Machine.execUnknown c s
  | .tick => Sys2Proof.Machine.execTick s
  | .backoffExpiry t => Sys2Proof.Machine.execBackoffExpiry t s
  | .dueTimeEvent n => Sys2Proof.Machine.execDueTimeEvent n s
  | .attnFallingEdge x => Sys2Proof.Machine.execAttnFallingEdge x s
  | .attnRearm x => Sys2Proof.Machine.execAttnRearm x s
  | .selectionOccasion x => Sys2Proof.Machine.execSelectionOccasion x s
  | .busFree x l => Sys2Proof.Machine.execBusFree x l s
  | .busStopSeen x => Sys2Proof.Machine.execBusStopSeen x s
  | .foreignStartSeen x => Sys2Proof.Machine.execForeignStartSeen x s
  | .busBusyTimeout x => Sys2Proof.Machine.execBusBusyTimeout x s
  | .busClear x => Sys2Proof.Machine.execBusClear x s
  | .busClearSuccess r => Sys2Proof.Machine.execBusClearSuccess r s
  | .busClearFail r l => Sys2Proof.Machine.execBusClearFail r l s
  | .stretchTimeout x l k h => Sys2Proof.Machine.execStretchTimeout x l k h s
  | .arbitrationLoss x => Sys2Proof.Machine.execArbitrationLoss x s
  | .completion x w => Sys2Proof.Machine.execCompletion x w s
  | .rawTransferCompletion x w => Sys2Proof.Machine.execRawTransferCompletion x w s
  | .stampCounterAdvance => Sys2Proof.Machine.execStampCounterAdvance s
  | .transactionOpen => Sys2Proof.Machine.execTransactionOpen s
  | .lineFall x l => Sys2Proof.Machine.execLineFall x l s

end Sys2Proof.Machine
end

