-- ==== Sys2Proof/WellFormed.lean ====
section
/-! DEFINITION. Which commands are well formed: the operand checks their types do not already make. -/

namespace Sys2Proof

/-- The thirteen command codes (R147). -/
def commandCodes : List Byte :=
  [0x01#8, 0x02#8, 0x03#8, 0x04#8, 0x05#8, 0x06#8, 0x07#8, 0x08#8, 0x09#8, 0x0A#8, 0x0B#8, 0x0C#8, 0x0F#8]

/-- A response fits the longest transaction: 18 bytes sent (two address bytes and 16 write bytes) and 17 bytes read
(16 data bytes and a check byte) (R46, R68). -/
def WireResponse.fits (w : WireResponse) : Bool :=
  decide (w.acks.length ≤ 18) && decide (w.reads.length ≤ 17)

/-- A bus clear has at most nine pulses and a STOP, each with one wait on SCL, and looks at SDA before each pulse (R63). -/
def ClearRun.fits (r : ClearRun) : Bool :=
  decide (r.sclWaits.length ≤ 10) && decide (r.sda.length ≤ 9)

/-- Well-formed commands: UNKNOWN's code names no command (R148), SOFT_RESET's byte has bit 0 set (R172), what the
field answers fits a transaction or a bus clear, and a failed bus clear leaves a line low (R63). -/
def Instr.wellFormed : Instr → Bool
  | .unknown code => !commandCodes.contains code
  | .softReset v => v.getLsbD 0
  | .completion _ w => w.fits
  | .rawTransferCompletion _ w => w.fits
  | .deferredLoadEnd _ w => w.fits
  | .stretchTimeout _ _ _ h => decide (h.acks.length ≤ 18)
  | .commandByte _ => true
  | .transactionEnd => true
  | .softResetEffect => true
  | .hardReset => true
  | .hardResetEnd => true
  | .queueDataByteStart => true
  | .queueDataByteComplete => true
  | .snapshotLatch _ => true
  | .watermarkLowWrite _ => true
  | .watermarkHighWrite _ => true
  | .intFlagsWrite _ => true
  | .bandPendingWrite _ => true
  | .intEnableWrite _ => true
  | .evict _ => true
  | .irqPushPull _ => true
  | .limitActiveHigh _ => true
  | .registerWrite _ => true
  | .start => true
  | .collectorEnterRunning => true
  | .stop => true
  | .collectorEnterStopped => true
  | .entryLoad => true
  | .entryFetch => true
  | .targetLoad => true
  | .targetFetch => true
  | .pollNow => true
  | .targetRelease => true
  | .targetHold => true
  | .rawTransfer => true
  | .mark => true
  | .flush => true
  | .abort => true
  | .tick => true
  | .backoffExpiry _ => true
  | .dueTimeEvent _ => true
  | .attnFallingEdge _ => true
  | .attnRearm _ => true
  | .selectionOccasion _ => true
  | .busFree _ _ => true
  | .busStopSeen _ => true
  | .foreignStartSeen _ => true
  | .busBusyTimeout _ => true
  | .busClear _ => true
  | .busClearSuccess r => r.fits
  | .busClearFail r left => r.fits && (left.scl.isSome || left.sda.isSome)
  | .arbitrationLoss _ => true
  | .stampCounterAdvance => true
  | .transactionOpen => true
  | .lineFall _ _ => true

end Sys2Proof
end

