-- ==== Sys2Proof/Safety.lean ====
section
/-! DEFINITION. The terms in which claims about the TC32 are made: the laws a sound state keeps, the stream of records as
the host reads it, and what it means that a command was taken and completed. -/

namespace Sys2Proof.Machine

/-! ### Laws of the stores -/

/-- The storage memory is canonical and lists storage addresses only (section 10.4). -/
def State.memoryLaw (s : State) : Prop :=
  Memory.wf s.mem = true ∧ ∀ c ∈ s.mem, storageAddr c.1 = true

/-- The LIMIT condition is what the law of R106 gives. -/
def State.limitLawHolds (s : State) : Prop := s.limit = s.limitLaw

/-- A data record, as against a bookkeeping record (R111). -/
def Record.isData : Record → Bool
  | .data _ _ => true
  | .time _ => false
  | .gap _ _ => false

/-- Record r' may stand directly behind r: a data record behind a Time record (R113), no Gap behind a Gap (R124). -/
def Record.mayPrecede (r r' : Record) : Bool :=
  match r with
  | .data _ _ => true
  | .time _ => r'.isData
  | .gap _ _ => match r' with
    | .gap _ _ => false
    | .data _ _ => true
    | .time _ => true

/-- Every record may precede its successor, and the last one is a data record (R118, R124). -/
def successionOk : List Record → Bool
  | [] => true
  | [r] => r.isData
  | r :: r' :: rest => r.mayPrecede r' && successionOk (r' :: rest)

/-- Sizes and counts of one record: at most 13 bytes, and a lost count of 1 to 65535 (R111, R113). -/
def Record.sound : Record → Prop
  | .data b _ => b.size ≤ 13
  | .time _ => True
  | .gap lost _ => 1 ≤ lost ∧ lost ≤ Config.lossCountMax

/-- The Record Queue is within its capacity, its records are sound and stand in lawful succession, and its counts are in
range (R110, R111, R113, R120, R124). -/
def Queue.law (q : Queue) : Prop :=
  q.fill ≤ Config.queueCapacity ∧ (∀ r ∈ q.records, r.sound) ∧ successionOk q.records = true
    ∧ q.pendingLoss ≤ Config.lossCountMax ∧ q.lossTotal ≤ Config.lossTotalMax

/-- The epoch a bookkeeping record carries (R113). -/
def Record.epoch? : Record → Option Half
  | .data _ _ => none
  | .time e => some e
  | .gap _ e => some e

/-- The epoch in effect behind records, from the epoch in effect before them (R114). -/
def epochAfter (e : Option Half) (rs : List Record) : Option Half := rs.foldl (fun acc r => r.epoch?.or acc) e

/-- The stream of data records as the host reads it: each with the epoch in effect for it and its low stamp, which
together are its full time (R114). -/
def stream : Option Half → List Record → List (Option Half × Body × Half)
  | _, [] => []
  | e, .data b st :: rest => (e, b, st) :: stream e rest
  | _, .time e :: rest => stream (some e) rest
  | _, .gap _ e :: rest => stream (some e) rest

/-- The stream the queue holds. -/
def Queue.stream (q : Queue) : List (Option Half × Body × Half) := Machine.stream q.headEpoch q.records

/-- The lost counts of the Gap records among records (R113). -/
def gapLosses (rs : List Record) : Nat :=
  (rs.map fun r => match r with
    | .gap lost _ => lost
    | .data _ _ => 0
    | .time _ => 0).sum

/-- The losses still to be read: the lost counts of the Gap records held, and the pending loss count (R120). -/
def Queue.unreadLosses (q : Queue) : Nat := gapLosses q.records + q.pendingLoss

/-- epoch_written is the epoch in effect at the tail, and a data record at the head has a valid head_epoch (R116, R125). -/
def Queue.epochLaw (q : Queue) : Prop :=
  epochAfter q.headEpoch q.records = q.epochWritten
    ∧ (q.headEpoch = none → ∀ r ∈ q.records.head?, r.isData = false)

/-- The Read Port and the framing that goes with it (R132, R133, R136, R168): unpinned is cursor 0; a pinned head exists,
is longer than the cursor, and has an open burst; a burst is open only in a read run that stands at QUEUE_DATA; a run needs
CSN low; a data byte is shifted out only in a read run, that of a register outside QUEUE_DATA and any other in a burst; and
the byte of a record only from a pinned head. -/
def State.readPortLaw (s : State) : Prop :=
  (s.port.pinned = false → s.port.cursor = 0)
    ∧ (s.port.pinned = true → s.host.burstOpen = true ∧ ∃ r ∈ s.queue.records.head?, s.port.cursor < r.size)
    ∧ (s.host.burstOpen = true → s.host.framing = .readRun ∧ s.host.pointer = 0x1C#7)
    ∧ (s.host.framing ≠ .noTransaction → s.host.csnLow = true)
    ∧ (∀ b ∈ s.host.byteOut, s.host.framing = .readRun
        ∧ (if b.source = .register then s.host.pointer ≠ 0x1C#7 else s.host.burstOpen = true)
        ∧ (b.source = .record → s.port.pinned = true))

/-- While a hard reset is in force every block holds its hard-reset state: the hard reset has nothing left to do (R167). -/
def State.heldInReset (s : State) : Prop := s.inReset = true → exec .hardReset s = .next s

/-! ### Laws of the tables -/

/-- A target definition that TARGET_LOAD accepts (R14, R16). -/
def TargetDef.sound (d : TargetDef) : Prop := targetCode d false = 0

/-- Two targets do not share a bus address: not both enabled on one segment with one address (R13). -/
def TargetDef.apart (d d' : TargetDef) : Prop :=
  ¬ (d.enabled = true ∧ d'.enabled = true ∧ d.segment = d'.segment ∧ d.address = d'.address)

/-- The Target Table, with the candidate of a deferred load in place of the target it will replace (R13, R14, R16). -/
def State.targetTableLaw (s : State) : Prop :=
  (∀ t, (s.target t).d.sound) ∧ (∀ t u, t ≠ u → (s.target t).d.apart (s.target u).d)
    ∧ ∀ w ∈ s.cu.wait, ∀ t d, w = .targetLoad t d → d.sound ∧ ∀ u, t ≠ u → d.apart (s.target u).d

/-- An entry definition that ENTRY_LOAD accepts with a length of 1 to 8 (R4, R10). -/
def EntryDef.sound (d : EntryDef) : Prop :=
  1 ≤ d.length.val ∧ d.offset.val + widthBytes d.wide ≤ d.length.val ∧ (d.tier ≠ 0 → d.period ≠ 0)
    ∧ (d.bandEnable = true → fieldInt d.signed d.lowLimit ≤ fieldInt d.signed d.highLimit ∧ d.confirm ≠ 0)

/-- One entry's live fields are in range (R8, R96, R100, R102), and an EMPTY entry holds zeros (R1). -/
def Entry.law (e : Entry) : Prop :=
  e.overrun ≤ Config.overrunMax ∧ e.meanHeld < meanCount e.d.meanCode
    ∧ (∀ r ∈ e.run, 1 ≤ r.2 ∧ r.2 < e.d.confirm.toNat ∧ r.1 ≠ e.stable)
    ∧ (e.d.bandEnable = false → e.stable = .normal ∧ e.run = none)
    ∧ (e.defined = true → e.d.sound) ∧ (e.defined = false → e = Entry.empty)

/-- The Poll Table, and the candidate of a deferred load (R10). -/
def State.entryTableLaw (s : State) : Prop :=
  (∀ n, (s.entry n).law) ∧ ∀ w ∈ s.cu.wait, ∀ n d, w = .entryLoad n (some d) → d.sound

/-- The health fields of a target agree with its health (R15, R73). -/
def Target.law (g : Target) : Prop :=
  (g.d.enabled = false → g.health = .active ∧ g.failures = 0 ∧ g.remaining = 0)
    ∧ (g.d.enabled = true → g.d.baseBackoff.toNat ≤ g.current ∧ g.current ≤ g.d.maxBackoff.toNat)
    ∧ match g.health with
      | .active => g.failures = 0 ∧ g.remaining = 0
      | .suspect => 1 ≤ g.failures ∧ g.failures < g.d.threshold.toNat ∧ g.remaining = 0
      | .quarantined => g.failures = g.d.threshold.toNat ∧ g.remaining ≤ g.current
      | .probing => g.failures = g.d.threshold.toNat ∧ g.remaining = 0
      | .held => g.failures ≤ g.d.threshold.toNat ∧ g.remaining = 0

/-- Every target's health fields agree with its health. -/
def State.healthLaw (s : State) : Prop := ∀ t, (s.target t).law

/-! ### Laws of the work in hand -/

/-- The poll an engine holds. -/
def Engine.poll (e : Engine) : Option PollWork :=
  match e.work with
  | some (.poll p) => some p
  | some (.raw _) => none
  | none => none

/-- The raw transfer an engine holds. -/
def Engine.raw (e : Engine) : Option RawParams :=
  match e.work with
  | some (.raw r) => some r
  | some (.poll _) => none
  | none => none

/-- What an engine holds in each of its states (R46, R54, R61). -/
def Engine.law (e : Engine) : Prop :=
  (match e.state with
    | .idle => e.work = none ∧ (e.stage = .none ∨ e.stage = .busCheck)
    | .faulted => e.work = none ∧ (e.stage = .none ∨ e.stage = .busCheck)
    | .busy => e.work ≠ none ∧ (e.stage = .freeCheck ∨ e.stage = .onWire ∨ e.stage = .stopGap ∨ e.stage = .arbWait)
    | .clearing => e.stage = .none)
    ∧ e.retries ≤ 3 ∧ (e.work ≠ none → e.retries < 3) ∧ (e.stage = .stopGap → e.hasGap = true)

/-- The raw transfer a wait is for, once the arbiter has taken it. -/
def Wait.rawOnSegment : Wait → Option RawParams
  | .raw .onSegment r => some r
  | .raw .aborted r => some r
  | .raw .pending _ => none
  | .start => none
  | .stop => none
  | .entryLoad _ _ => none
  | .targetLoad _ _ => none

/-- The raw transfer a wait is for, while the arbiter has not taken it. -/
def Wait.rawPending : Wait → Option RawParams
  | .raw .pending r => some r
  | .raw .onSegment _ => none
  | .raw .aborted _ => none
  | .start => none
  | .stop => none
  | .entryLoad _ _ => none
  | .targetLoad _ _ => none

/-- A poll held by the engine of segment x belongs to it: its entry is DEFINED, in flight and on x, and its target is the
entry's, in use, and not set aside by a quarantine (R42, R44, R82). -/
def State.pollBelongs (s : State) (x : Segment) (p : PollWork) : Prop :=
  s.collector ≠ .stopped ∧ s.entrySegment p.entry = x ∧ (s.entry p.entry).defined = true
    ∧ (s.entry p.entry).inFlight = true ∧ (s.entry p.entry).d.target = p.target ∧ (s.target p.target).d.enabled = true
    ∧ (s.target p.target).health ≠ .quarantined ∧ ((s.target p.target).health = .probing → p.probe = true)

/-- Segment x's engine, One-Shot List and pending raw transfer agree with the tables and the Command Unit (R25, R34, R36,
R45, R46, R78). -/
def State.segmentLaw (s : State) (x : Segment) : Prop :=
  (s.engine x).law
    ∧ (((s.engine x).stage = .busCheck ∨ ((s.engine x).state = .clearing ∧ (s.engine x).work = none)) →
        s.cu.wait = some .start)
    ∧ (∀ p ∈ (s.engine x).poll, s.pollBelongs x p)
    ∧ (∀ r ∈ (s.engine x).raw, r.segment = x ∧ s.cu.wait.bind Wait.rawOnSegment = some r)
    ∧ ((s.seg x).rawPending = true → ∃ r ∈ s.cu.wait.bind Wait.rawPending, r.segment = x)
    ∧ (s.seg x).oneShot.length ≤ Config.oneShotMax ∧ (s.seg x).oneShot.Nodup
    ∧ (∀ n ∈ (s.seg x).oneShot, s.entrySegment n = x)

/-- Entry n, where it is in flight or waits in a list (R7, R34, R42, R78). -/
def State.waitingLaw (s : State) (n : EntryNo) : Prop :=
  ((s.entry n).inFlight = true → ∃ p ∈ (s.engine (s.entrySegment n)).poll, p.entry = n)
    ∧ (((s.entry n).due.isSome = true ∨ s.inOneShot n = true) →
        s.collector = .running ∧ (s.entry n).defined = true ∧ s.sleeps n = false)

/-- What the Command Unit waits for is there (R25, R28, R45, R152). -/
def State.waitLaw (s : State) : Prop :=
  (s.collector = .stopping ↔ s.cu.wait = some .stop)
    ∧ (s.cu.wait = some .start → s.collector = .stopped)
    ∧ (∀ r ∈ s.cu.wait.bind Wait.rawPending, (s.seg r.segment).rawPending = true)
    ∧ (∀ r ∈ s.cu.wait.bind Wait.rawOnSegment, (s.engine r.segment).raw = some r)
    ∧ ∀ w ∈ s.cu.wait,
        (∀ n c, w = .entryLoad n c → s.collector = .running ∧ (s.entry n).inFlight = true)
          ∧ (∀ t d, w = .targetLoad t d →
              s.collector = .running ∧ s.targetInFlight t = true ∧ d.segment = (s.target t).d.segment)

/-- The lists, the engines, the in-flight flags and the Command Unit agree. -/
def State.workLaw (s : State) : Prop :=
  s.segmentLaw .a ∧ s.segmentLaw .b ∧ (∀ n, s.waitingLaw n) ∧ s.waitLaw

/-! ### What claims assume and conclude -/

/-- The part is out of hard reset, and the next byte to complete is a byte written at address a (R168). -/
def State.writing (s : State) (a : RegAddr) : Prop := s.inReset = false ∧ s.writesAt a = true

/-- The next byte to complete is a command code, and the Command Unit is READY (R145). -/
def State.takes (s : State) : Prop := s.writing 0x04#7 ∧ s.cu.wait = none

/-- A byte of a write run has completed: the pointer has moved on, and nothing else of the Host Port (R168). -/
def State.byteDone (s t : State) : Prop := t.host = { s.host with pointer := nextPointer s.host.pointer }

/-- Command `code` was taken in s and completed at that event with this result and detail (R145, R146). -/
def State.answeredAs (s t : State) (code result detail : Byte) : Prop :=
  s.byteDone t
    ∧ t.cu = { s.cu with wait := none, inProgress := none, taken := some { code := code, arg := s.cu.arg }, cmd := code,
                         result := result, detail := detail }

/-- As `answeredAs`, and the sticky flags are those of s but for CMD. -/
def State.completedAs (s t : State) (code result detail : Byte) : Prop :=
  s.answeredAs t code result detail ∧ t.sticky = { s.sticky with cmd := true }

/-- Command c is taken and turned away: it completes with this result and detail, and nothing but the Command Unit, the
CMD flag and the pointer changes (R147). -/
def State.turnsAway (s : State) (c : Instr) (code result detail : Byte) : Prop :=
  ∃ t, exec c s = .next t ∧ s.completedAs t code result detail
    ∧ t = { s with host := t.host, cu := t.cu, sticky := t.sticky }

/-- Command `code` was taken in s, and the unit is BUSY with it for this wait (R145, R146). -/
def State.waitsAs (s t : State) (code : Byte) (w : Wait) : Prop :=
  s.byteDone t ∧ t.sticky = s.sticky
    ∧ t.cu = { s.cu with wait := some w, inProgress := some { code := code, arg := s.cu.arg },
                         taken := some { code := code, arg := s.cu.arg }, cmd := code }

/-- A command in progress completes in t with this result and detail 00h (R146). -/
def State.endsAs (s t : State) (result : Byte) : Prop :=
  t.cu = { s.cu with wait := none, inProgress := none, result := result, detail := 0 } ∧ t.sticky.cmd = true

/-- The commands that write a code to CMD, but for ABORT and the codes that name no command (R147). -/
def codeCommands : List Instr :=
  [.start, .stop, .entryLoad, .entryFetch, .targetLoad, .targetFetch, .pollNow, .targetRelease, .targetHold, .rawTransfer,
   .mark, .flush]

/-- The commands that can move the LIMIT condition: the end of a poll, ENTRY_LOAD, START and the resets (R106). -/
def movesLimit : Instr → Bool
  | .completion _ _ | .deferredLoadEnd _ _ | .stretchTimeout _ _ _ _ | .arbitrationLoss _ => true
  | .foreignStartSeen _ | .busClearFail _ _ => true
  | .entryLoad | .start | .collectorEnterRunning => true
  | .hardReset | .softResetEffect | .transactionEnd => true
  | _ => false

/-- The commands that still do something while a hard reset is in force: the reset itself, and what is seen at the pins
CSN, ATTN_x, SCL_x and SDA_x (R166 to R168). -/
def actsInReset : Instr → Bool
  | .hardReset | .hardResetEnd => true
  | .transactionOpen | .transactionEnd | .softResetEffect => true
  | .attnFallingEdge _ | .attnRearm _ => true
  | .lineFall _ _ | .busFree _ _ => true
  | _ => false

/-- The commands that can change a snapshot latch (R170). -/
def movesLatch : Instr → Bool
  | .snapshotLatch _ => true
  | .hardReset | .softResetEffect | .transactionEnd => true
  | _ => false

/-- The commands that can change the data byte being shifted out: those that start or complete a byte of a read run, and
those that end the transaction (R168). -/
def movesByteOut : Instr → Bool
  | .snapshotLatch _ | .queueDataByteStart | .queueDataByteComplete => true
  | .hardReset | .softResetEffect | .transactionEnd => true
  | _ => false

/-- The bits of a register that a REGISTER_WRITE replaces: all of a read-write or storage register, the bits of a layout
that are not reserved or read-only, none elsewhere (R169, section 10.4). -/
def writeMask (a : RegAddr) : Byte :=
  if a = 0x05#7 then 0xFF#8
  else if a = 0x0A#7 ∨ a = 0x20#7 ∨ a = 0x24#7 then 0x03#8
  else if a = 0x21#7 ∨ a = 0x22#7 ∨ a = 0x25#7 ∨ a = 0x26#7 then 0xFF#8
  else if storageAddr a.toNat then 0xFF#8
  else 0x00#8

/-- k data bytes are read from QUEUE_DATA one after another: the bytes delivered, and the machine after (R133, R134). -/
def State.readQueue : Nat → State → Option (List Byte × State)
  | 0, s => some ([], s)
  | k + 1, s =>
    match exec .queueDataByteStart s with
    | .fault _ => none
    | .refused _ => none
    | .next s1 =>
      match exec .queueDataByteComplete s1 with
      | .fault _ => none
      | .refused _ => none
      | .next s2 => (State.readQueue k s2).bind fun r => s1.host.byteOut.map fun b => (b.value :: r.1, r.2)

/-- The bits of a byte, most significant first. -/
def bitsOf (b : Byte) : List Bool := (List.range 8).map fun i => b.getLsbD (7 - i)

/-- One message bit into a CRC-8 register with generator 07h, bit by bit (R55). -/
def crcBit (r : Byte) (bit : Bool) : Byte := if r.msb != bit then (r <<< 1) ^^^ 0x07#8 else r <<< 1

/-- An attention event of segment x reaches entry n (R40). -/
def State.answersAttention (s : State) (x : Segment) (n : EntryNo) : Prop :=
  (s.entry n).defined = true ∧ (s.entry n).d.attention = true ∧ s.entrySegment n = x
    ∧ (s.target (s.entry n).d.target).d.enabled = true ∧ (s.target (s.entry n).d.target).health ≠ .quarantined
    ∧ (s.target (s.entry n).d.target).health ≠ .held

/-- Poll p of segment x has ended in t with this outcome and these data bytes, and no load was deferred behind it: the
engine is IDLE, the Health Unit's judgement and the Result Stage's result stand, the records have been handed over as one
group, and the entry is no longer in flight (R62, R74, R78, R89, R90, R103). -/
def State.pollEnds (s t : State) (x : Segment) (p : PollWork) (o : WorkOutcome) (data : List Byte) : Prop :=
  ∀ j, j = (s.target p.target).judge o p.probe → ∀ r, r = (s.entry p.entry).process p j.1 o data →
    ∀ bs, bs = restoredRecords p j.2 ++ r.records
                ++ (if j.2 = .quarantined then s.droppedRecords p.target j.1 else []) →
    ∀ q, q = s.queue.admitGroup s.ctrl.evict s.port.pinned s.stamp bs →
    t = { s with entries := t.entries, targets := t.targets, segA := t.segA, segB := t.segB, queue := q.1
                 sticky := { s.sticky with health := s.sticky.health || decide (j.2 ≠ .none), loss := s.sticky.loss || q.2 }
                 bandPending := if r.transition then s.bandPending ||| (1#32 <<< p.entry.val) else s.bandPending
                 limit := if r.transition then t.limitLaw else s.limit }
      ∧ t.target p.target = j.1 ∧ (∀ k, k ≠ p.target → t.target k = s.target k)
      ∧ t.entry p.entry = { r.entry with inFlight := false
                                         due := if j.2 = .quarantined ∧ (s.entry p.entry).d.target = p.target then none
                                                else (s.entry p.entry).due }
      ∧ (∀ n, n ≠ p.entry → t.entry n = { s.entry n with
            due := if j.2 = .quarantined ∧ (s.entry n).d.target = p.target then none else (s.entry n).due })
      ∧ ∀ y, t.seg y = { s.seg y with
          engine := if y = x then { s.engine y with state := .idle, work := none, stage := .none, received := [] }
                    else s.engine y
          oneShot := if j.2 = .quarantined ∧ y = (s.target p.target).d.segment
                     then (s.seg y).oneShot.filter fun n => (s.entry n).d.target != p.target else (s.seg y).oneShot }

/-- Raw transfer r of segment x, at this stage of its command, has ended in t with this outcome and these data bytes: the
engine is IDLE, the bytes are stored on success and CHECK_FAIL unless it was aborted, and the command has completed with
the raw result or ABORTED (R69, R70, R159). -/
def State.rawEnds (s t : State) (x : Segment) (st : RawStage) (r : RawParams) (o : WorkOutcome) (data : List Byte) : Prop :=
  s.endsAs t (if st = .aborted then 0x08#8 else o.rawResult)
    ∧ t = { s with cu := t.cu, sticky := { s.sticky with cmd := true }, mem := t.mem, segA := t.segA, segB := t.segB }
    ∧ (∀ y, t.seg y = { s.seg y with engine :=
          if y = x then { s.engine y with state := .idle, work := none, stage := .none, received := [] } else s.engine y })
    ∧ ∀ a, Memory.read t.mem a =
        if st ≠ .aborted ∧ (o = .success ∨ o = .checkFail) ∧ 0x60 ≤ a ∧ a < 0x60 + r.readCount.val
        then data.getD (a - 0x60) 0 else Memory.read s.mem a

/-- Command c ends the poll that segment x's engine holds: its transaction comes to its STOP, a wait reaches the stretch
limit, arbitration is lost for the third time, or a bus clear fails with no raw transfer pending (R61 to R65, R152). -/
def State.endsPoll (s : State) (x : Segment) (c : Instr) : Prop :=
  ((∃ w, c = .completion x w)
      ∧ ((s.engine x).stage = .onWire
          ∨ ((s.engine x).stage = .stopGap ∧ (s.seg x).scl.high = true ∧ (s.seg x).sda.high = true)))
    ∨ ((∃ l waited h, c = .stretchTimeout x l waited h ∧ 100 * (s.engine x).latched.stretch ≤ waited)
        ∧ ((s.engine x).stage = .onWire ∨ (s.engine x).stage = .stopGap))
    ∨ (((c = .arbitrationLoss x ∧ ((s.engine x).stage = .onWire ∨ (s.engine x).stage = .stopGap))
          ∨ (c = .foreignStartSeen x ∧ (s.engine x).stage = .stopGap ∧ (s.engine x).state ≠ .faulted))
        ∧ (s.engine x).latched.multiMaster = true ∧ 2 ≤ (s.engine x).retries)
    ∨ ((∃ r left, r.segment = x ∧ c = .busClearFail r left ∧ s.clearFails r left = true) ∧ (s.engine x).state = .clearing
        ∧ (s.seg x).rawPending = false)

/-- The report mode's answers to successive values, each with its data bytes, and the entry after them (R94 to R97). -/
def Entry.reports : Entry → List (Int × List Byte) → Entry × List (Option (Bool × List Byte))
  | e, [] => (e, [])
  | e, (v, ds) :: rest =>
    let r := e.report v ds
    let rest' := Entry.reports r.1 rest
    (rest'.1, r.2 :: rest'.2)

/-- The Band Monitor's answers to successive values, and the entry after them (R101 to R103). -/
def Entry.classifies : Entry → List Int → Entry × List (Option (Band × Band))
  | e, [] => (e, [])
  | e, v :: rest =>
    let r := e.classify v
    let rest' := Entry.classifies r.1 rest
    (rest'.1, r.2 :: rest'.2)

end Sys2Proof.Machine
end

