-- ==== Sys2Proof/Certificates/Slice0/Obligations.lean ====
section
/-! DEFINITION. The statements about the TC32 that are to be proved, one definition each; OBLIGATIONS.json lists them. -/

section
open Sys2Proof Sys2Proof.Machine

/-! ### The machine as a whole -/

/-- A step carries out the command at the front of the queue on the state with the queue's rest; with no command waiting
the machine idles (log 2). -/
def Obligations.StepRunsTheFrontCommand : Prop :=
  (∀ (c : Instr) (rest : List Instr) (s : State),
      step { s with pending := c :: rest } = exec c { s with pending := rest })
    ∧ ∀ s : State, s.pending = [] → step s = .next s

/-- Every command answers a next state in every state, and touches neither the commands that wait nor, but for the end of
a hard reset, the counter of the free value (log 16, log 26). -/
def Obligations.EveryCommandAnswersANextState : Prop :=
  ∀ (c : Instr) (s : State), ∃ t, exec c s = .next t ∧ t.pending = s.pending
    ∧ (c ≠ .hardResetEnd → t.freeIndex = s.freeIndex)

/-- The state after reset keeps every law that a step is claimed to keep; what the 128 addresses read there (section
10.4), and the pins. Bits 4 and 5 of ATTN_CTRL show ATTN_A and ATTN_B at the high level the model takes for them (log 18).
In every state the STATE register shows the collector, both engines, CMD_BUSY and the LIMIT condition. -/
def Obligations.ResetStateAndItsLaws : Prop :=
  State.reset.memoryLaw ∧ State.reset.limitLawHolds ∧ State.reset.queue.law ∧ State.reset.queue.epochLaw
    ∧ State.reset.readPortLaw ∧ State.reset.heldInReset ∧ State.reset.targetTableLaw ∧ State.reset.entryTableLaw
    ∧ State.reset.healthLaw ∧ State.reset.workLaw
    ∧ (∀ a : RegAddr, State.reset.readReg a =
      if a = 0x00#7 then 0xC7#8 else if a = 0x01#7 then 0x12#8 else if a = 0x0A#7 then 0x30#8
      else if a = 0x21#7 ∨ a = 0x25#7 then 0x19#8 else if a = 0x22#7 ∨ a = 0x26#7 then 0x23#8 else 0x00#8)
    ∧ State.reset.irqPin = .released ∧ State.reset.limitPin = .high ∧ State.reset.sdo = none
    ∧ ∀ s : State, ∀ v, v = s.readReg 0x03#7 →
        v.extractLsb' 0 2 = (match s.collector with | .stopped => 0#2 | .running => 1#2 | .stopping => 2#2)
        ∧ v.extractLsb' 2 2
            = (match s.segA.engine.state with | .idle => 0#2 | .busy => 1#2 | .clearing => 2#2 | .faulted => 3#2)
        ∧ v.extractLsb' 4 2
            = (match s.segB.engine.state with | .idle => 0#2 | .busy => 1#2 | .clearing => 2#2 | .faulted => 3#2)
        ∧ v.getLsbD 6 = s.cu.wait.isSome ∧ v.getLsbD 7 = s.limit

/-! ### Laws every step keeps -/

/-- The storage memory stays canonical and within the storage addresses. -/
def Obligations.StorageLawIsKept : Prop :=
  ∀ s t : State, s.memoryLaw → step s = .next t → t.memoryLaw

/-- The LIMIT condition follows its law at all times, it moves only at the events of R106, and the pin and STATE show it
(R106). -/
def Obligations.LimitFollowsTheStableStates : Prop :=
  ∀ s t : State, s.limitLawHolds → step s = .next t →
    t.limitLawHolds
    ∧ (t.limit = true ↔ ∃ n, (t.entry n).defined = true ∧ (t.entry n).d.bandEnable = true
        ∧ (t.entry n).d.driveLimit = true ∧ ((t.entry n).stable = .high ∨ (t.entry n).stable = .low))
    ∧ ((∀ c ∈ s.pending.head?, movesLimit c = false) → t.limit = s.limit)
    ∧ t.limitPin = (if t.ctrl.limitActiveHigh then (if t.limit then .high else .low) else (if t.limit then .low else .high))
    ∧ (t.readReg 0x03#7).getLsbD 7 = t.limit

/-- The Record Queue stays within 2048 bytes, its records sound and in lawful succession, its counts in range. -/
def Obligations.RecordQueueLawIsKept : Prop :=
  ∀ s t : State, s.queue.law → step s = .next t → t.queue.law

/-- epoch_written stays the epoch in effect at the tail, and a data record at the head keeps a valid head_epoch. -/
def Obligations.EpochLawIsKept : Prop :=
  ∀ s t : State, s.queue.epochLaw → step s = .next t → t.queue.epochLaw

/-- The cursor, the pin, the open burst and the framing stay in agreement. -/
def Obligations.ReadPortLawIsKept : Prop :=
  ∀ s t : State, s.readPortLaw → step s = .next t → t.readPortLaw

/-- Every target stays one that TARGET_LOAD accepts, and no two enabled targets share a segment and address. -/
def Obligations.TargetTableLawIsKept : Prop :=
  ∀ s t : State, s.targetTableLaw → step s = .next t → t.targetTableLaw

/-- Every entry's definition stays one that ENTRY_LOAD accepts, its live fields in range; EMPTY entries hold zeros. -/
def Obligations.EntryTableLawIsKept : Prop :=
  ∀ s t : State, s.workLaw → s.entryTableLaw → step s = .next t → t.entryTableLaw

/-- Every target's count and backoff fields stay in agreement with its health. -/
def Obligations.HealthLawIsKept : Prop :=
  ∀ s t : State, s.workLaw → s.targetTableLaw → s.healthLaw → step s = .next t → t.healthLaw

/-- The lists, the engines, the in-flight flags, the collector and the Command Unit stay in agreement. -/
def Obligations.WorkLawIsKept : Prop :=
  ∀ s t : State, s.workLaw → step s = .next t → t.workLaw

/-! ### Transactions and resets -/

/-- CSN falls, the command byte completes, CSN rises with no soft reset requested. -/
def Obligations.TransactionFraming : Prop :=
  ∀ s : State, s.inReset = false →
    (s.host.csnLow = false →
      exec .transactionOpen s = .next { s with host := { s.host with csnLow := true, framing := .awaitingCommand } })
    ∧ (∀ b : Byte, s.host.framing = .awaitingCommand →
      exec (.commandByte b) s =
        .next { s with host := { s.host with framing := if b.getLsbD 7 then .readRun else .writeRun,
                                             pointer := b.extractLsb' 0 7 } })
    ∧ (s.host.csnLow = true → s.host.resetRequested = false →
      exec .transactionEnd s =
        .next { s with host := { s.host with csnLow := false, framing := .noTransaction, burstOpen := false, byteOut := none },
                       port := { cursor := 0, pinned := false } })

/-- A soft reset takes effect as CSN rises. The moment a line fell is kept as a moment: it is counted from the new start
of elapsed time (log 17). -/
def Obligations.SoftResetTakesEffect : Prop :=
  ∀ s : State, s.host.csnLow = true → s.host.resetRequested = true →
    ∃ t, exec .softResetEffect s = .next t ∧ exec .transactionEnd s = .next t
      ∧ t = { State.reset with inReset := s.inReset, entries := t.entries, targets := t.targets, segA := t.segA,
                               segB := t.segB, pending := s.pending, freeIndex := s.freeIndex }
      ∧ (∀ n, t.entry n = { s.entry n with nextDue := 0, overrun := 0, stable := .normal, run := none, meanSum := 0,
                                           meanHeld := 0, last := 0, lastExists := false, due := none, inFlight := false })
      ∧ (∀ k, t.target k = { d := (s.target k).d, health := .active, failures := 0, remaining := 0,
                             current := (s.target k).d.baseBackoff.toNat })
      ∧ (∀ x, t.seg x =
          { Seg.reset with attnHigh := (s.seg x).attnHigh, attnArmed := (s.seg x).attnHigh
                           scl := { high := (s.seg x).scl.high, fell := (s.seg x).scl.fell - s.elapsed }
                           sda := { high := (s.seg x).sda.high, fell := (s.seg x).sda.fell - s.elapsed } })
      ∧ t.irqPin = .released ∧ t.limitPin = .high

/-- A hard reset puts every block in its hard-reset state; at its end the Timebase begins from 0 and the edge detectors
follow the levels. When a line that then reads low fell is a free value: the statement holds for every one (log 16). -/
def Obligations.HardResetAndItsEnd : Prop :=
  ∀ s : State,
    (∃ t, exec .hardReset s = .next t
      ∧ t = { State.reset with inReset := true, host := { HostPort.reset with csnLow := s.host.csnLow }, segA := t.segA,
                               segB := t.segB, pending := s.pending, freeIndex := s.freeIndex }
      ∧ (∀ x, t.seg x = { Seg.reset with attnHigh := (s.seg x).attnHigh, attnArmed := (s.seg x).attnHigh,
                                         scl := (s.seg x).scl, sda := (s.seg x).sda })
      ∧ t.sdo = none ∧ t.irqPin = .released ∧ t.limitPin = .high)
    ∧ (s.inReset = true → ∃ t, exec .hardResetEnd s = .next t
      ∧ t = { s with inReset := false, elapsed := 0, segA := t.segA, segB := t.segB, freeIndex := t.freeIndex }
      ∧ ∀ x, t.seg x = { s.seg x with attnArmed := (s.seg x).attnHigh
                                      scl := { (s.seg x).scl with fell := (t.seg x).scl.fell }
                                      sda := { (s.seg x).sda with fell := (t.seg x).sda.fell } }
        ∧ ((s.seg x).scl.high = true → (t.seg x).scl.fell = (s.seg x).scl.fell)
        ∧ ((s.seg x).sda.high = true → (t.seg x).sda.fell = (s.seg x).sda.fell))

/-- While a hard reset is in force, every command but the resets and what is seen at the pins does nothing; and every block
holds its hard-reset state at every step, so that a further hard reset would change nothing. -/
def Obligations.HardResetIgnoresCommands : Prop :=
  (∀ (c : Instr) (s : State), s.inReset = true → actsInReset c = false → exec c s = .next s)
    ∧ (∀ s t : State, exec .hardReset s = .next t → t.inReset = true ∧ t.heldInReset)
    ∧ ∀ s t : State, s.heldInReset → step s = .next t → t.heldInReset

/-! ### Register writes -/

/-- A CTRL byte: the three held bits at once, bit 0 a request; the four rows are one byte (log 5). -/
def Obligations.CtrlByteTakesEffect : Prop :=
  ∀ (s : State) (v : Byte), s.writing 0x02#7 →
    ∀ c ∈ [Instr.softReset v, .evict v, .irqPushPull v, .limitActiveHigh v], ∃ t, exec c s = .next t
      ∧ t = { s with ctrl := { evict := v.getLsbD 1, irqPushPull := v.getLsbD 2, limitActiveHigh := v.getLsbD 3 }
                     host := { s.host with pointer := 0x03#7, resetRequested := s.host.resetRequested || v.getLsbD 0 } }
      ∧ t.readReg 0x02#7 = v &&& 0x0E#8
      ∧ t.irqPin = (if s.irq then .low else if v.getLsbD 2 then .high else .released)
      ∧ t.limitPin = (if s.limit = v.getLsbD 3 then .high else .low)

/-- WATERMARK: the byte at 16h is held, the byte at 17h sets the value with it, limited to 2047; both resets clear the
held byte; reads show the value in effect (R171). -/
def Obligations.WatermarkIsWrittenInTwoBytes : Prop :=
  (∀ s t : State, exec .hardReset s = .next t → t.host.heldLow = 0x00#8 ∧ t.watermark = 0)
    ∧ (∀ s : State, s.host.csnLow = true → s.host.resetRequested = true →
        ∃ t, exec .softResetEffect s = .next t ∧ t.host.heldLow = 0x00#8 ∧ t.watermark = 0)
    ∧ (∀ (s : State) (v : Byte), s.writing 0x16#7 →
        ∃ t, exec (.watermarkLowWrite v) s = .next t
          ∧ t = { s with host := { s.host with heldLow := v, pointer := 0x17#7 } } ∧ t.wmark = s.wmark
          ∧ t.readReg 0x16#7 = s.readReg 0x16#7)
    ∧ (∀ (s : State) (v : Byte), s.writing 0x17#7 →
        ∃ t, exec (.watermarkHighWrite v) s = .next t
          ∧ t = { s with watermark := if 2047 < 256 * v.toNat + s.host.heldLow.toNat then 2047
                                      else 256 * v.toNat + s.host.heldLow.toNat
                         host := { s.host with pointer := 0x18#7 } }
          ∧ (t.readReg 0x16#7).toNat + 256 * (t.readReg 0x17#7).toNat = t.watermark
          ∧ (t.wmark = true ↔ t.watermark ≠ 0 ∧ t.watermark ≤ t.queue.fill))

/-- INT_FLAGS and BAND_PENDING: a written 1 clears the sticky bit at its place, level flags and all other bits stay. -/
def Obligations.WrittenOnesClearStickyBits : Prop :=
  (∀ (s : State) (v : Byte), s.writing 0x08#7 →
      ∃ t, exec (.intFlagsWrite v) s = .next t
        ∧ t = { s with sticky := t.sticky, host := { s.host with pointer := 0x09#7 } }
        ∧ t.intFlags = s.intFlags &&& ~~~(v &&& 0x7A#8))
    ∧ ∀ (s : State) (v : Byte) (i : Nat), i < 4 → s.inReset = false → s.host.framing = .writeRun →
        s.host.pointer = 0x0C#7 + BitVec.ofNat 7 i →
        ∃ t, exec (.bandPendingWrite v) s = .next t
          ∧ t = { s with bandPending := t.bandPending, host := { s.host with pointer := s.host.pointer + 1 } }
          ∧ (∀ j, j < 32 → t.bandPending.getLsbD j = (s.bandPending.getLsbD j && !(decide (j / 8 = i) && v.getLsbD (j % 8))))
          ∧ (t.intFlags.getLsbD 2 = true ↔ ∃ j, j < 32 ∧ t.bandPending.getLsbD j = true)

/-- INT_ENABLE: a write replaces all eight enables, reads back, and moves the IRQ condition alone; both resets clear it
and release IRQ (R163). -/
def Obligations.IntEnableReplacesAllEnables : Prop :=
  (∀ (s : State) (v : Byte), s.writing 0x09#7 →
      ∃ t, exec (.intEnableWrite v) s = .next t
        ∧ t = { s with intEnable := v, host := { s.host with pointer := 0x0A#7 } }
        ∧ t.readReg 0x09#7 = v ∧ t.intFlags = s.intFlags
        ∧ (t.irq = true ↔ ∃ i, i < 8 ∧ s.intFlags.getLsbD i = true ∧ v.getLsbD i = true))
    ∧ (∀ s t : State, exec .hardReset s = .next t → t.intEnable = 0x00#8 ∧ t.irq = false)
    ∧ ∀ s : State, s.host.csnLow = true → s.host.resetRequested = true →
        ∃ t, exec .softResetEffect s = .next t ∧ t.intEnable = 0x00#8 ∧ t.irq = false

/-- A byte written at any address without behaviour of its own: its writable bits read back, its other bits and every
other address read as before. -/
def Obligations.RegisterWriteReadsBack : Prop :=
  ∀ (s : State) (v : Byte), s.inReset = false → s.host.framing = .writeRun → ownWriteRow s.host.pointer.toNat = false →
    s.memoryLaw →
    ∃ t, exec (.registerWrite v) s = .next t ∧ s.byteDone t
      ∧ t = { s with host := t.host, cu := { s.cu with arg := t.cu.arg }, mem := t.mem
                     segA := { s.segA with attnEnable := t.segA.attnEnable, cfgFast := t.segA.cfgFast,
                                           cfgMulti := t.segA.cfgMulti, cfgStretch := t.segA.cfgStretch,
                                           cfgBusFree := t.segA.cfgBusFree }
                     segB := { s.segB with attnEnable := t.segB.attnEnable, cfgFast := t.segB.cfgFast,
                                           cfgMulti := t.segB.cfgMulti, cfgStretch := t.segB.cfgStretch,
                                           cfgBusFree := t.segB.cfgBusFree } }
      ∧ ∀ a : RegAddr, t.readReg a =
          if a = s.host.pointer then (v &&& writeMask a) ||| (s.readReg a &&& ~~~(writeMask a)) else s.readReg a

/-! ### Reads with an effect -/

/-- The snapshot latches: 0 after either reset; at the byte start of a counter's low byte the whole counter is copied into
its own latch, and the low byte is shifted out; the higher bytes are the latch's; no other command moves a latch, and the
byte being shifted out keeps its value until it completes, another data byte starts, or the transaction ends (R168, R170).
That a read run comes to the low byte over bytes that no row starts is the model's choice (log 4). -/
def Obligations.SnapshotLatchesHoldTheirCounters : Prop :=
  (∀ s t : State, exec .hardReset s = .next t → t.host.stampLatch = 0 ∧ t.host.fillLatch = 0 ∧ t.host.lossLatch = 0)
    ∧ (∀ s : State, s.host.csnLow = true → s.host.resetRequested = true →
        ∃ t, exec .softResetEffect s = .next t ∧ t.host.stampLatch = 0 ∧ t.host.fillLatch = 0 ∧ t.host.lossLatch = 0)
    ∧ (∀ s : State, s.inReset = false →
        (s.readsAt 0x10#7 = true → exec (.snapshotLatch .stamp) s =
            .next { s with host := { s.host with stampLatch := s.stamp, pointer := 0x10#7
                                                 byteOut := some { value := s.stamp.extractLsb' 0 8, source := .register } } })
        ∧ (s.readsAt 0x14#7 = true → exec (.snapshotLatch .fill) s =
            .next { s with host := { s.host with fillLatch := BitVec.ofNat 16 s.queue.fill, pointer := 0x14#7
                                                 byteOut := some { value := (BitVec.ofNat 16 s.queue.fill).extractLsb' 0 8
                                                                   source := .register } } })
        ∧ (s.readsAt 0x18#7 = true → exec (.snapshotLatch .lossTotal) s =
            .next { s with host := { s.host with lossLatch := BitVec.ofNat 32 s.queue.lossTotal, pointer := 0x18#7
                                                 byteOut := some { value := (BitVec.ofNat 32 s.queue.lossTotal).extractLsb' 0 8
                                                                   source := .register } } }))
    ∧ (∀ s : State,
        s.readReg 0x10#7 = s.stamp.extractLsb' 0 8 ∧ s.readReg 0x14#7 = (BitVec.ofNat 16 s.queue.fill).extractLsb' 0 8
        ∧ s.readReg 0x18#7 = (BitVec.ofNat 32 s.queue.lossTotal).extractLsb' 0 8
        ∧ s.readReg 0x11#7 = s.host.stampLatch.extractLsb' 8 8 ∧ s.readReg 0x12#7 = s.host.stampLatch.extractLsb' 16 8
        ∧ s.readReg 0x13#7 = s.host.stampLatch.extractLsb' 24 8 ∧ s.readReg 0x15#7 = s.host.fillLatch.extractLsb' 8 8
        ∧ s.readReg 0x19#7 = s.host.lossLatch.extractLsb' 8 8 ∧ s.readReg 0x1A#7 = s.host.lossLatch.extractLsb' 16 8
        ∧ s.readReg 0x1B#7 = s.host.lossLatch.extractLsb' 24 8)
    ∧ ∀ (c : Instr) (s t : State), exec c s = .next t →
        (movesLatch c = false →
          t.host.stampLatch = s.host.stampLatch ∧ t.host.fillLatch = s.host.fillLatch ∧ t.host.lossLatch = s.host.lossLatch)
        ∧ (movesByteOut c = false → t.host.byteOut = s.host.byteOut)

/-- The data bytes of a read run. Of QUEUE_DATA: at the byte start the value is fixed and a head record is pinned; at the
completion the cursor moves on, or the record read whole leaves the queue. Of any other register whose reading has no
effect: at the byte start the register's value is fixed, SDO shifts it out, and at the completion the pointer moves on.
Which rows a register's byte takes, and that a run comes to an address over bytes that no row starts, is the model's choice
(log 4). -/
def Obligations.QueueDataByteStartAndCompletion : Prop :=
  ∀ s : State, s.inReset = false →
    (s.readsAt 0x1C#7 = true →
      (s.queue.records = [] →
        exec .queueDataByteStart s =
          .next { s with host := { s.host with pointer := 0x1C#7, burstOpen := true,
                                               byteOut := some { value := 0x00#8, source := .emptyMarker } } })
      ∧ ∀ r rest, s.queue.records = r :: rest →
        exec .queueDataByteStart s =
          .next { s with host := { s.host with pointer := 0x1C#7, burstOpen := true,
                                               byteOut := some { value := r.bytes.getD s.port.cursor 0, source := .record } }
                         port := { s.port with pinned := true } })
    ∧ (∀ v, s.host.byteOut = some { value := v, source := .emptyMarker } →
        exec .queueDataByteComplete s = .next { s with host := { s.host with byteOut := none } })
    ∧ (∀ v r rest, s.host.byteOut = some { value := v, source := .record } → s.queue.records = r :: rest →
        (s.port.cursor + 1 < r.size →
          exec .queueDataByteComplete s =
            .next { s with host := { s.host with byteOut := none }, port := { s.port with cursor := s.port.cursor + 1 } })
        ∧ (s.port.cursor + 1 = r.size →
          exec .queueDataByteComplete s =
            .next { s with host := { s.host with byteOut := none }
                           port := { cursor := 0, pinned := false }
                           queue := { s.queue with records := rest
                                                   headEpoch := r.epoch?.or s.queue.headEpoch } }))
    ∧ (∀ a, s.host.framing = .readRun →
        ((s.host.byteOut = none ∧ s.host.pointer = a)
          ∨ (∃ v, s.host.byteOut = some { value := v, source := .register } ∧ s.host.pointer + 1 = a
              ∧ s.host.pointer ≠ 0x1C#7)) →
        a ≠ 0x10#7 → a ≠ 0x14#7 → a ≠ 0x18#7 → a ≠ 0x1C#7 →
        ∃ t, exec (.snapshotLatch .plain) s = .next t
          ∧ t = { s with host := { s.host with pointer := a, byteOut := some { value := s.readReg a, source := .register } } }
          ∧ (s.host.csnLow = true → t.sdo = some (s.readReg a)))
    ∧ ∀ v, s.host.byteOut = some { value := v, source := .register } → s.host.pointer ≠ 0x1C#7 →
        exec .queueDataByteComplete s =
          .next { s with host := { s.host with byteOut := none, pointer := s.host.pointer + 1 } }

/-- A burst that reads the queue to its end and k bytes beyond delivers the bytes of every record, oldest first, then k
Empty markers, and leaves the queue empty with head_epoch the last epoch read; nothing else is touched. -/
def Obligations.BurstDeliversEveryRecordInOrder : Prop :=
  ∀ (s : State) (k : Nat), s.inReset = false → s.host.framing = .readRun → s.host.byteOut = none →
    s.host.pointer = 0x1C#7 → s.port = { cursor := 0, pinned := false } →
    ∃ t, s.readQueue ((s.queue.records.map Record.size).sum + k)
          = some (s.queue.records.flatMap Record.bytes ++ List.replicate k 0x00#8, t)
      ∧ t = { s with host := { s.host with burstOpen := t.host.burstOpen }
                     queue := { s.queue with records := [], headEpoch := epochAfter s.queue.headEpoch s.queue.records } }

/-! ### Records and images -/

/-- The byte format of every record: kind and body length in the header, the fields at their offsets (R176). -/
def Obligations.RecordsHaveTheirByteFormat : Prop :=
  (∀ r : Record, r.bytes.length = r.size
      ∧ (r.size ≤ 13 → (r.header.extractLsb' 5 3 = r.kind ∧ (r.header.extractLsb' 0 5).toNat = r.bodyBytes.length)))
    ∧ (∀ (n : EntryNo) (c : Cause) (reduced probe : Bool) (overrun : Nat) (ds : List Byte) (st : Half),
        1 ≤ ds.length → ds.length ≤ 8 → overrun ≤ 15 →
        ∃ info : Byte, (Record.data (.sample n c reduced probe overrun ds) st).bytes
            = [BitVec.ofNat 8 (0x24 + ds.length), BitVec.ofNat 8 n.val, st.extractLsb' 0 8, st.extractLsb' 8 8, info] ++ ds
          ∧ info.extractLsb' 0 2 = (match c with | .scheduled => 0#2 | .attention => 1#2 | .oneShot => 2#2)
          ∧ info.getLsbD 2 = reduced ∧ info.getLsbD 3 = probe ∧ (info.extractLsb' 4 4).toNat = overrun)
    ∧ (∀ (e : Entry) (v : Int) (data ds : List Byte), (e.report v data).2 = some (true, ds) → ds.length = 2)
    ∧ (∀ (t : Option TargetNo) (n : Option EntryNo) (c : FaultCode) (h : Option Health) (count : Nat) (st : Half),
        count ≤ 15 →
        ∃ detail : Byte, (Record.data (.fault t n c h count) st).bytes
            = [0x46#8, (match t with | some k => BitVec.ofNat 8 k.val | none => 0xFF#8),
               (match n with | some k => BitVec.ofNat 8 k.val | none => 0xFF#8), st.extractLsb' 0 8, st.extractLsb' 8 8,
               (match c with
                | .addrNack => 1#8 | .dataNack => 2#8 | .stretchTimeout => 3#8 | .checkFail => 4#8 | .arbLost => 5#8
                | .busStuck => 6#8 | .dropped => 7#8 | .restored => 8#8 | .released => 9#8 | .held => 10#8), detail]
          ∧ detail.extractLsb' 0 3 = (match h with
              | some .active => 0#3 | some .suspect => 1#3 | some .quarantined => 2#3 | some .probing => 3#3
              | some .held => 4#3 | none => 7#3)
          ∧ detail.getLsbD 3 = false ∧ (detail.extractLsb' 4 4).toNat = count)
    ∧ (∀ (n : EntryNo) (f t : Band) (v st : Half),
        ∃ transition : Byte, (Record.data (.band n f t v) st).bytes
            = [0x66#8, BitVec.ofNat 8 n.val, st.extractLsb' 0 8, st.extractLsb' 8 8, transition, v.extractLsb' 0 8,
               v.extractLsb' 8 8]
          ∧ transition.extractLsb' 0 2 = (match f with | .normal => 0#2 | .high => 1#2 | .low => 2#2)
          ∧ transition.extractLsb' 2 2 = (match t with | .normal => 0#2 | .high => 1#2 | .low => 2#2)
          ∧ transition.extractLsb' 4 4 = 0#4)
    ∧ (∀ e : Half, (Record.time e).bytes = [0x82#8, e.extractLsb' 0 8, e.extractLsb' 8 8])
    ∧ (∀ (lost : Nat) (e : Half), lost ≤ 65535 →
        ∃ lo hi : Byte, (Record.gap lost e).bytes = [0xA4#8, lo, hi, e.extractLsb' 0 8, e.extractLsb' 8 8]
          ∧ lo.toNat + 256 * hi.toNat = lost)
    ∧ ∀ (tag : Byte) (st : Half),
        (Record.data (.mark tag) st).bytes = [0xC3#8, tag, st.extractLsb' 0 8, st.extractLsb' 8 8]

/-- An image and the definition it stands for: the image a fetch writes decodes to the definition it was written from, for
every entry that ENTRY_LOAD accepts and every target, and a fetched DEFINED entry passes ENTRY_LOAD's checks. -/
def Obligations.ImagesDecodeToTheirDefinitions : Prop :=
  (∀ d : EntryDef, d.sound →
      entryDefOf (fun k => d.bytes.getD k 0) = d ∧ imageLength (fun k => d.bytes.getD k 0) = d.length.val
        ∧ entryLoadCode (fun k => d.bytes.getD k 0) = 0
        ∧ entryCandidate (fun k => d.bytes.getD k 0) = some d)
    ∧ (∀ d : TargetDef, targetDefOf (fun k => d.bytes.getD k 0) = d)
    ∧ ∀ img : Nat → Byte, imageLength img ≠ 0 → entryLoadCode img = 0 → (entryDefOf img).sound

/-! ### The Command Unit -/

/-- A code written while the unit is BUSY is not taken: CMDREF is set, and nothing else but the pointer changes. -/
def Obligations.BusyUnitTakesNoOtherCode : Prop :=
  ∀ (s : State) (w : Wait), s.writing 0x04#7 → s.cu.wait = some w →
    (∀ c ∈ codeCommands, exec c s =
        .next { s with sticky := { s.sticky with cmdref := true }, host := { s.host with pointer := 0x05#7 } })
    ∧ ∀ code : Byte, commandCodes.contains code = false → exec (.unknown code) s =
        .next { s with sticky := { s.sticky with cmdref := true }, host := { s.host with pointer := 0x05#7 } }

/-- A code that names none of the thirteen commands, 00h included, completes with UNKNOWN and has no other effect; written
while BUSY it is not taken and sets CMDREF (R148). -/
def Obligations.UnknownCodeCompletesWithUnknown : Prop :=
  commandCodes.length = 13 ∧ commandCodes.contains 0x00#8 = false
    ∧ ∀ (s : State) (code : Byte), s.writing 0x04#7 → commandCodes.contains code = false →
      (s.cu.wait = none → ∃ t, exec (.unknown code) s = .next t ∧ s.completedAs t code 0x09#8 0x00#8
        ∧ t = { s with host := t.host, cu := t.cu, sticky := t.sticky }
        ∧ t.readReg 0x04#7 = code ∧ t.readReg 0x06#7 = 0x09#8 ∧ t.readReg 0x07#7 = 0x00#8
        ∧ (t.readReg 0x08#7).getLsbD 4 = true)
      ∧ (s.busy = true → exec (.unknown code) s =
        .next { s with sticky := { s.sticky with cmdref := true }, host := { s.host with pointer := 0x05#7 } })

/-- ENTRY_FETCH and TARGET_FETCH: RANGE with the image unchanged, or the whole image as the entry or target stands, in
flight included, at the event at which the fetch is taken; never while BUSY (R153). What each byte of the two images shows,
ticks to due limited to 65535 among them (R12, R18, R174, R175). -/
def Obligations.FetchCopiesIntoTheImage : Prop :=
  (∀ s : State, s.takes →
      (31 < s.cu.arg.toNat → s.turnsAway .entryFetch 0x04#8 0x02#8 0x00#8)
      ∧ (15 < s.cu.arg.toNat → s.turnsAway .targetFetch 0x06#8 0x02#8 0x00#8))
    ∧ (∀ (s : State) (n : EntryNo), s.takes → s.memoryLaw → s.cu.arg.toNat = n.val →
        ∃ t, exec .entryFetch s = .next t ∧ s.completedAs t 0x04#8 0x01#8 0x00#8
          ∧ t = { s with host := t.host, cu := t.cu, sticky := t.sticky, mem := t.mem }
          ∧ ∀ a, Memory.read t.mem a =
              if 0x30 ≤ a ∧ a < 0x4A then (s.entryImage n).getD (a - 0x30) 0 else Memory.read s.mem a)
    ∧ (∀ (s : State) (k : TargetNo), s.takes → s.memoryLaw → s.cu.arg.toNat = k.val →
        ∃ t, exec .targetFetch s = .next t ∧ s.completedAs t 0x06#8 0x01#8 0x00#8
          ∧ t = { s with host := t.host, cu := t.cu, sticky := t.sticky, mem := t.mem }
          ∧ ∀ a, Memory.read t.mem a =
              if 0x4A ≤ a ∧ a < 0x54 then (s.targetImage k).getD (a - 0x4A) 0 else Memory.read s.mem a)
    ∧ (∀ (s : State) (w : Wait), s.writing 0x04#7 → s.cu.wait = some w → ∀ c ∈ [Instr.entryFetch, .targetFetch],
        exec c s =
          .next { s with sticky := { s.sticky with cmdref := true }, host := { s.host with pointer := 0x05#7 } })
    ∧ (∀ (s : State) (n : EntryNo), (s.entryImage n).length = 26 ∧ ∀ e, e = s.entry n →
        ∀ b : Nat → Byte, b = (fun k => (s.entryImage n).getD k 0) →
        ((b 0).toNat = e.d.target.val ∧ b 1 = e.d.pointer ∧ ((b 2).extractLsb' 0 4).toNat = e.d.length.val
          ∧ (b 2).getLsbD 4 = e.d.pointerPresent ∧ (b 2).getLsbD 5 = e.d.attention ∧ (b 2).extractLsb' 6 2 = e.d.tier
          ∧ (b 3).extractLsb' 0 2 = (match e.d.mode with | .always => 0#2 | .onChange => 1#2 | .mean => 2#2 | .silent => 3#2)
          ∧ (b 3).extractLsb' 2 2 = e.d.meanCode ∧ (b 3).getLsbD 4 = e.d.wide ∧ (b 3).getLsbD 5 = e.d.signed
          ∧ (b 3).getLsbD 6 = e.d.highFirst ∧ (b 3).getLsbD 7 = false ∧ (b 4).toNat = e.d.offset.val
          ∧ (b 5).getLsbD 0 = e.d.bandEnable ∧ (b 5).getLsbD 1 = e.d.bandRecord ∧ (b 5).getLsbD 2 = e.d.driveLimit
          ∧ (b 5).getLsbD 3 = false ∧ (b 5).extractLsb' 4 4 = e.d.confirm
          ∧ b 7 ++ b 6 = e.d.period ∧ b 9 ++ b 8 = e.d.phase ∧ b 11 ++ b 10 = e.d.deadband ∧ b 13 ++ b 12 = e.d.lowLimit
          ∧ b 15 ++ b 14 = e.d.highLimit ∧ b 17 ++ b 16 = e.d.hysteresis)
        ∧ (b 18).extractLsb' 0 2 = (match e.stable with | .normal => 0#2 | .high => 1#2 | .low => 2#2)
        ∧ (b 18).extractLsb' 2 2
            = (match e.run with | none => 0#2 | some (.high, _) => 1#2 | some (.low, _) => 2#2 | some (.normal, _) => 3#2)
        ∧ ((∀ r ∈ e.run, r.2 ≤ 15) →
            ((b 18).extractLsb' 4 4).toNat = (match e.run with | none => 0 | some (_, count) => count))
        ∧ (b 19).getLsbD 0 = e.defined ∧ (b 19).getLsbD 1 = e.due.isSome
        ∧ (b 19).getLsbD 2 = decide (n ∈ (s.seg (s.entrySegment n)).oneShot) ∧ (b 19).getLsbD 3 = e.inFlight
        ∧ (e.overrun ≤ 15 → ((b 19).extractLsb' 4 4).toNat = e.overrun)
        ∧ b 21 ++ b 20 = e.last
        ∧ (b 22).toNat + 256 * (b 23).toNat =
            (if s.collector = .running ∧ e.defined = true ∧ e.d.tier ≠ 0 ∧ reached e.nextDue s.tickCount = false
             then min 65535 ((e.nextDue.toNat + 2 ^ 32 - s.tickCount.toNat) % 2 ^ 32) else 0)
        ∧ (e.meanHeld ≤ 255 → (b 24).toNat = e.meanHeld) ∧ b 25 = 0x00#8)
    ∧ ∀ (s : State) (k : TargetNo), (s.targetImage k).length = 10 ∧ ∀ g, g = s.target k →
        ∀ b : Nat → Byte, b = (fun i => (s.targetImage k).getD i 0) →
        (b 0).extractLsb' 0 7 = g.d.address ∧ (b 0).getLsbD 7 = g.d.enabled
        ∧ (b 1).getLsbD 0 = decide (g.d.segment = .b) ∧ (b 1).getLsbD 1 = g.d.check ∧ (b 1).getLsbD 2 = g.d.stopBetween
        ∧ (b 1).getLsbD 3 = false ∧ (b 1).extractLsb' 4 4 = g.d.threshold
        ∧ b 3 ++ b 2 = g.d.baseBackoff ∧ b 5 ++ b 4 = g.d.maxBackoff
        ∧ b 6 = (match g.health with
            | .active => 0#8 | .suspect => 1#8 | .quarantined => 2#8 | .probing => 3#8 | .held => 4#8)
        ∧ (g.failures ≤ 255 → (b 7).toNat = g.failures)
        ∧ (g.remaining ≤ 65535 → (b 8).toNat + 256 * (b 9).toNat = g.remaining)

/-- Every refusal of a taken command by its checks, with its result code and CMD_DETAIL; a refused command changes nothing
but the Command Unit, the CMD flag and the pointer. CMD_DETAIL of INVALID is the lowest code among the conditions that hold,
of the six of R10 for an entry image whose length is not 0, of the five of R16 for an enabled target. -/
def Obligations.RefusedCommandsChangeNothingElse : Prop :=
  (∀ s : State, s.takes →
    (s.collector ≠ .stopped → s.turnsAway .start 0x01#8 0x04#8 0x00#8)
    ∧ (s.collector ≠ .running → s.turnsAway .stop 0x02#8 0x04#8 0x00#8)
    ∧ (31 < s.cu.arg.toNat →
        s.turnsAway .entryLoad 0x03#8 0x02#8 0x00#8 ∧ s.turnsAway .pollNow 0x07#8 0x02#8 0x00#8)
    ∧ (15 < s.cu.arg.toNat → s.turnsAway .targetLoad 0x05#8 0x02#8 0x00#8
        ∧ s.turnsAway .targetRelease 0x08#8 0x02#8 0x00#8 ∧ s.turnsAway .targetHold 0x09#8 0x02#8 0x00#8)
    ∧ (s.cu.arg.toNat ≤ 31 → entryLoadCode s.entryImageByte ≠ 0 →
        s.turnsAway .entryLoad 0x03#8 0x03#8 (entryLoadCode s.entryImageByte))
    ∧ (∀ k : TargetNo, s.cu.arg.toNat = k.val → ∀ d, d = targetDefOf s.targetImageByte →
        (targetCode d (s.addressClash k d) ≠ 0 →
          s.turnsAway .targetLoad 0x05#8 0x03#8 (targetCode d (s.addressClash k d)))
        ∧ (targetCode d (s.addressClash k d) = 0 → s.collector = .running → d.segment ≠ (s.target k).d.segment →
          s.turnsAway .targetLoad 0x05#8 0x04#8 0x00#8)
        ∧ ((s.target k).d.enabled = false →
          s.turnsAway .targetRelease 0x08#8 0x04#8 0x00#8 ∧ s.turnsAway .targetHold 0x09#8 0x04#8 0x00#8))
    ∧ (∀ n : EntryNo, s.cu.arg.toNat = n.val →
        ∀ g, g = s.target (s.entry n).d.target → ∀ requests, requests = (s.seg (s.entrySegment n)).oneShot →
        ∀ refused, refused = decide (s.collector ≠ .running ∨ (s.entry n).defined = false ∨ g.d.enabled = false
            ∨ g.health = .quarantined ∨ g.health = .held ∨ (s.engine g.d.segment).state = .faulted) →
          (refused = true → s.turnsAway .pollNow 0x07#8 0x04#8 0x00#8)
          ∧ (refused = false → 4 ≤ requests.length → s.turnsAway .pollNow 0x07#8 0x05#8 0x00#8)
          ∧ (refused = false → requests.length < 4 → n ∈ requests → s.turnsAway .pollNow 0x07#8 0x06#8 0x00#8))
    ∧ (16 < (s.rawByte 1).toNat → s.turnsAway .rawTransfer 0x0A#8 0x03#8 0x01#8)
    ∧ ((s.rawByte 1).toNat ≤ 16 → 16 < (s.rawByte 2).toNat → s.turnsAway .rawTransfer 0x0A#8 0x03#8 0x02#8)
    ∧ ((s.rawByte 1).toNat ≤ 16 → (s.rawByte 2).toNat ≤ 16 → (s.engine s.rawParams.segment).state = .faulted →
        s.turnsAway .rawTransfer 0x0A#8 0x04#8 0x00#8))
    ∧ (∀ img : Nat → Byte, ∀ length, length = ((img 2).extractLsb' 0 4).toNat → ∀ signed, signed = (img 3).getLsbD 5 →
        (length = 0 → entryLoadCode img = 0)
        ∧ ∀ broken : List Bool, broken =
            [decide (15 < (img 0).toNat), decide (8 < length),
             decide (length < (img 4).toNat + if (img 3).getLsbD 4 = true then 2 else 1),
             decide (img 6 = 0 ∧ img 7 = 0 ∧ (img 2).extractLsb' 6 2 ≠ 0),
             decide ((img 5).getLsbD 0 = true
               ∧ fieldInt signed (img 15 ++ img 14 : BitVec 16) < fieldInt signed (img 13 ++ img 12 : BitVec 16)),
             decide ((img 5).getLsbD 0 = true ∧ (img 5).extractLsb' 4 4 = 0)] →
          length ≠ 0 → (entryLoadCode img).toNat = (match broken.findIdx? id with | some i => i + 1 | none => 0))
    ∧ ∀ (s : State) (k : TargetNo) (d : TargetDef),
        (d.enabled = false → targetCode d (s.addressClash k d) = 0)
        ∧ ∀ broken : List Bool, broken =
            [decide (d.address.toNat < 0x08 ∨ 0x77 < d.address.toNat), decide (d.threshold = 0),
             decide (d.baseBackoff.toNat < 10), decide (d.maxBackoff.toNat < d.baseBackoff.toNat),
             decide (∃ u, u ≠ k ∧ (s.target u).d.enabled = true ∧ (s.target u).d.segment = d.segment
               ∧ (s.target u).d.address = d.address)] →
          d.enabled = true →
            (targetCode d (s.addressClash k d)).toNat = (match broken.findIdx? id with | some i => i + 1 | none => 0)

/-- A valid ENTRY_LOAD of entry n: applied at once when n is not in flight, deferred with its candidate when it is. A valid
TARGET_LOAD of target k: applied at once when no poll of k is in flight, deferred when one is; a load that disables k takes
its entries out of both lists of its segment. -/
def Obligations.LoadsApplyOrAreDeferred : Prop :=
  (∀ (s : State) (n : EntryNo), s.takes → s.cu.arg.toNat = n.val → entryLoadCode s.entryImageByte = 0 →
    ∀ cand, cand = entryCandidate s.entryImageByte →
    ((s.entry n).inFlight = false → ∃ t, exec .entryLoad s = .next t ∧ s.completedAs t 0x03#8 0x01#8 0x00#8
      ∧ t = { s with host := t.host, cu := t.cu, sticky := t.sticky, entries := t.entries, segA := t.segA, segB := t.segB,
                     bandPending := s.bandPending &&& ~~~(1#32 <<< n.val), limit := t.limit }
      ∧ t.entry n = { Entry.empty with defined := cand.isSome, d := cand.getD EntryDef.zero
                                       nextDue := if s.collector = .running ∧ cand.isSome
                                                  then s.tickCount + (cand.getD EntryDef.zero).phase.setWidth 32 else 0 }
      ∧ (∀ m, m ≠ n → t.entry m = s.entry m)
      ∧ (∀ x, t.seg x = { s.seg x with oneShot := if x = s.entrySegment n then (s.seg x).oneShot.filter (· != n)
                                                  else (s.seg x).oneShot })
      ∧ t.limitLawHolds)
    ∧ ((s.entry n).inFlight = true → ∃ t, exec .entryLoad s = .next t ∧ s.waitsAs t 0x03#8 (.entryLoad n cand)
      ∧ t = { s with host := t.host, cu := t.cu } ∧ t.readReg 0x06#7 = 0xFF#8 ∧ t.readReg 0x07#7 = 0x03#8))
  ∧
  (∀ (s : State) (k : TargetNo), s.takes → s.cu.arg.toNat = k.val → ∀ d, d = targetDefOf s.targetImageByte →
    targetCode d (s.addressClash k d) = 0 → ¬ (s.collector = .running ∧ d.segment ≠ (s.target k).d.segment) →
    (s.targetInFlight k = false → ∃ t, exec .targetLoad s = .next t ∧ s.completedAs t 0x05#8 0x01#8 0x00#8
      ∧ t = { s with host := t.host, cu := t.cu, sticky := t.sticky, entries := t.entries, targets := t.targets,
                     segA := t.segA, segB := t.segB }
      ∧ t.target k = { d := d, health := .active, failures := 0, remaining := 0, current := d.baseBackoff.toNat }
      ∧ (∀ j, j ≠ k → t.target j = s.target j)
      ∧ (∀ n, t.entry n =
          if d.enabled = false ∧ (s.entry n).d.target = k then { s.entry n with due := none } else s.entry n)
      ∧ (∀ x, t.seg x = { s.seg x with
            oneShot := if d.enabled = false ∧ x = (s.target k).d.segment
                       then (s.seg x).oneShot.filter fun n => (s.entry n).d.target != k else (s.seg x).oneShot }))
    ∧ (s.targetInFlight k = true → ∃ t, exec .targetLoad s = .next t ∧ s.waitsAs t 0x05#8 (.targetLoad k d)
      ∧ t = { s with host := t.host, cu := t.cu } ∧ t.readReg 0x06#7 = 0xFF#8 ∧ t.readReg 0x07#7 = 0x04#8))

/-- START in STOPPED: both segments are latched and checked; with all lines high the collector enters RUNNING at once, and
otherwise the unit waits while the segments with a low line go on with their bus check. The entry into RUNNING: entries,
targets, LIMIT and the attention inputs at that event, and START's result. -/
def Obligations.StartAndTheEntryIntoRunning : Prop :=
  (∀ s : State, s.takes → s.collector = .stopped →
    ∃ u, s.waitsAs u 0x01#8 .start ∧ u = { s with host := u.host, cu := u.cu, segA := u.segA, segB := u.segB }
      ∧ (∀ x, u.seg x = { s.seg x with engine :=
          { (s.engine x) with
            latched := { fast := (s.seg x).cfgFast, multiMaster := (s.seg x).cfgMulti
                         stretch := if (s.seg x).cfgStretch = 0 then 1 else (s.seg x).cfgStretch.toNat
                         busFree := if (s.seg x).cfgBusFree = 0 then 1 else (s.seg x).cfgBusFree.toNat }
            busBusy := false
            state := if (s.seg x).linesHigh then .idle else (s.engine x).state
            stage := if (s.seg x).linesHigh then .none else .busCheck } })
      ∧ (s.segA.linesHigh = true → s.segB.linesHigh = true →
          ∃ t, exec .start s = .next t ∧ exec .collectorEnterRunning u = .next t ∧ t.collector = .running
            ∧ s.completedAs t 0x01#8 0x01#8 0x00#8)
      ∧ (¬ (s.segA.linesHigh = true ∧ s.segB.linesHigh = true) → exec .start s = .next u ∧ u.readReg 0x07#7 = 0x01#8))
  ∧
  (∀ s : State, s.inReset = false → s.cu.wait = some .start → s.segA.preparing = false → s.segB.preparing = false →
    ∃ t, exec .collectorEnterRunning s = .next t ∧ s.endsAs t 0x01#8
      ∧ t = { s with collector := .running, limit := false, entries := t.entries, targets := t.targets, segA := t.segA
                     segB := t.segB, cu := t.cu, sticky := { s.sticky with cmd := true } }
      ∧ (∀ k, t.target k =
          if (s.target k).d.enabled = true ∧ (s.target k).health ≠ .held then
            { s.target k with health := .active, failures := 0, remaining := 0
                              current := (s.target k).d.baseBackoff.toNat }
          else s.target k)
      ∧ (∀ x, t.seg x = { s.seg x with attnArmed :=
            if (s.engine x).state ≠ .faulted ∧ (s.seg x).attnEnable = true ∧ (s.seg x).attnHigh = false then false
            else (s.seg x).attnArmed })
      ∧ ∀ n, ∀ x, x = s.entrySegment n → ∀ due,
          due = (if (s.entry n).defined = true ∧ (s.entry n).d.attention = true
                    ∧ (s.target (s.entry n).d.target).d.enabled = true ∧ (s.target (s.entry n).d.target).health ≠ .held
                    ∧ (s.engine x).state ≠ .faulted ∧ (s.seg x).attnEnable = true ∧ (s.seg x).attnHigh = false
                 then some .attention else (s.entry n).due) →
          t.entry n =
            if (s.entry n).defined = true then
              { s.entry n with nextDue := s.tickCount + (s.entry n).d.phase.setWidth 32, overrun := 0, stable := .normal
                               run := none, meanSum := 0, meanHeld := 0, last := 0, lastExists := false, due := due }
            else s.entry n)

/-- STOP in RUNNING empties both lists of both segments; with nothing to drain the collector is STOPPED at once, otherwise
it is STOPPING until the drain ends, and STOP completes with OK as it enters STOPPED. -/
def Obligations.StopDrainsAndEnds : Prop :=
  (∀ s : State, s.takes → s.collector = .running → ∃ t, exec .stop s = .next t
      ∧ (∀ n, t.entry n = { s.entry n with due := none }) ∧ (∀ x, t.seg x = { s.seg x with oneShot := [] })
      ∧ (s.drained = true → s.completedAs t 0x02#8 0x01#8 0x00#8 ∧ t.collector = .stopped)
      ∧ (s.drained = false → s.waitsAs t 0x02#8 .stop ∧ t.collector = .stopping ∧ t.readReg 0x07#7 = 0x02#8)
      ∧ t = { s with host := t.host, cu := t.cu, sticky := t.sticky, collector := t.collector, entries := t.entries
                     segA := t.segA, segB := t.segB })
    ∧ ∀ s : State, s.inReset = false → s.collector = .stopping → s.drained = true → s.cu.wait = some .stop →
      ∃ t, exec .collectorEnterStopped s = .next t ∧ s.endsAs t 0x01#8
        ∧ t = { s with collector := .stopped, cu := t.cu, sticky := { s.sticky with cmd := true } }

/-- POLL_NOW accepted: the request joins the One-Shot List of the entry's segment at its tail. -/
def Obligations.PollNowAppendsItsRequest : Prop :=
  ∀ (s : State) (n : EntryNo), s.takes → s.cu.arg.toNat = n.val → s.collector = .running → (s.entry n).defined = true →
    (s.target (s.entry n).d.target).d.enabled = true → (s.target (s.entry n).d.target).health ≠ .quarantined →
    (s.target (s.entry n).d.target).health ≠ .held → (s.engine (s.entrySegment n)).state ≠ .faulted →
    (s.seg (s.entrySegment n)).oneShot.length < 4 → n ∉ (s.seg (s.entrySegment n)).oneShot →
    ∃ t, exec .pollNow s = .next t ∧ s.completedAs t 0x07#8 0x01#8 0x00#8
      ∧ t = { s with host := t.host, cu := t.cu, sticky := t.sticky, segA := t.segA, segB := t.segB }
      ∧ ∀ x, t.seg x = { s.seg x with oneShot := if x = s.entrySegment n then (s.seg x).oneShot ++ [n]
                                                 else (s.seg x).oneShot }

/-- TARGET_HOLD and TARGET_RELEASE of an enabled target: the health fields, the work taken out of the lists by a hold, the
records handed over in order, HEALTH; a hold of a HELD and a release of an ACTIVE target do nothing. -/
def Obligations.HoldAndReleaseOfATarget : Prop :=
  ∀ (s : State) (k : TargetNo), s.takes → s.cu.arg.toNat = k.val → (s.target k).d.enabled = true →
    ((s.target k).health = .held → s.turnsAway .targetHold 0x09#8 0x01#8 0x00#8)
    ∧ ((s.target k).health = .active → s.turnsAway .targetRelease 0x08#8 0x01#8 0x00#8)
    ∧ ((s.target k).health ≠ .held → ∀ bs,
        bs = Body.fault (some k) none .held (some .held) (s.target k).failures
          :: ((s.seg (s.target k).d.segment).oneShot.filter fun n => (s.entry n).d.target == k).map
              (fun n => Body.fault (some k) (some n) .dropped (some .held) (s.target k).failures) →
        ∀ r, r = s.queue.admitGroup s.ctrl.evict s.port.pinned s.stamp bs →
        ∃ t, exec .targetHold s = .next t ∧ s.answeredAs t 0x09#8 0x01#8 0x00#8
          ∧ t = { s with host := t.host, cu := t.cu, entries := t.entries, targets := t.targets, segA := t.segA
                         segB := t.segB, queue := r.1
                         sticky := { s.sticky with cmd := true, health := true, loss := s.sticky.loss || r.2 } }
          ∧ t.target k = { s.target k with health := .held, remaining := 0 }
          ∧ (∀ j, j ≠ k → t.target j = s.target j)
          ∧ (∀ n, t.entry n = if (s.entry n).d.target = k then { s.entry n with due := none } else s.entry n)
          ∧ ∀ x, t.seg x = { s.seg x with
              oneShot := if x = (s.target k).d.segment then (s.seg x).oneShot.filter fun n => (s.entry n).d.target != k
                         else (s.seg x).oneShot })
    ∧ ((s.target k).health ≠ .active → ∀ r,
        r = s.queue.admitGroup s.ctrl.evict s.port.pinned s.stamp [.fault (some k) none .released (some .active) 0] →
        ∃ t, exec .targetRelease s = .next t ∧ s.answeredAs t 0x08#8 0x01#8 0x00#8
          ∧ t = { s with host := t.host, cu := t.cu, targets := t.targets, queue := r.1
                         sticky := { s.sticky with cmd := true, health := true, loss := s.sticky.loss || r.2 } }
          ∧ t.target k = { s.target k with health := .active, failures := 0, remaining := 0
                                           current := (s.target k).d.baseBackoff.toNat }
          ∧ ∀ j, j ≠ k → t.target j = s.target j)

/-- RAW_TRANSFER accepted: its parameters are captured and it becomes its segment's pending raw transfer. -/
def Obligations.RawTransferBecomesPending : Prop :=
  ∀ s : State, s.takes → (s.rawByte 1).toNat ≤ 16 → (s.rawByte 2).toNat ≤ 16 → ∀ r, r = s.rawParams →
    (s.engine r.segment).state ≠ .faulted →
    ∃ t, exec .rawTransfer s = .next t ∧ s.waitsAs t 0x0A#8 (.raw .pending r)
      ∧ t = { s with host := t.host, cu := t.cu, segA := t.segA, segB := t.segB }
      ∧ (∀ x, t.seg x = { s.seg x with rawPending := if x = r.segment then true else (s.seg x).rawPending })
      ∧ t.readReg 0x07#7 = 0x05#8
      ∧ r.segment = (if (s.rawByte 0).getLsbD 7 then .b else .a) ∧ r.address = (s.rawByte 0).extractLsb' 0 7
      ∧ r.write.length = (s.rawByte 1).toNat
      ∧ (∀ i, i < r.write.length → r.write.getD i 0 = Memory.read s.mem (0x60 + i))
      ∧ r.readCount.val = (s.rawByte 2).toNat ∧ r.check = (s.rawByte 3).getLsbD 0
      ∧ r.stopBetween = (s.rawByte 3).getLsbD 1

/-- MARK hands one Mark record to the queue and answers OK or LOST by what became of it; FLUSH empties the queue, its
accounts and LOSS. -/
def Obligations.MarkAndFlushActOnTheQueue : Prop :=
  ∀ s : State, s.takes →
    (∀ a, a = s.queue.admitOne s.ctrl.evict s.port.pinned s.stamp (.mark s.cu.arg) →
      ∃ t, exec .mark s = .next t ∧ s.answeredAs t 0x0B#8 (if a.written then 0x01#8 else 0x07#8) 0x00#8
        ∧ t = { s with host := t.host, cu := t.cu, queue := a.queue
                       sticky := { s.sticky with cmd := true, loss := s.sticky.loss || a.loss } })
    ∧ ∃ t, exec .flush s = .next t ∧ s.answeredAs t 0x0C#8 0x01#8 0x00#8
        ∧ t = { s with host := t.host, cu := t.cu, sticky := { s.sticky with cmd := true, loss := false }
                       queue := { records := [], epochWritten := none, headEpoch := none, pendingLoss := 0, lossTotal := 0 } }

/-- ABORT by the unit state and wait reason, row by row of the table of R159. -/
def Obligations.AbortByWaitReason : Prop :=
  ∀ s : State, s.writing 0x04#7 →
    (s.cu.wait = none → ∃ t, exec .abort s = .next t ∧ s.completedAs t 0x0F#8 0x01#8 0x00#8
      ∧ t = { s with host := t.host, cu := t.cu, sticky := t.sticky })
    ∧ (s.cu.wait = some .start ∨ s.cu.wait = some .stop →
      exec .abort s =
        .next { s with sticky := { s.sticky with cmdref := true }, host := { s.host with pointer := 0x05#7 } })
    ∧ ((∃ n c, s.cu.wait = some (.entryLoad n c)) ∨ (∃ k d, s.cu.wait = some (.targetLoad k d)) →
      ∃ t, exec .abort s = .next t ∧ s.completedAs t 0x0F#8 0x08#8 0x00#8
        ∧ t = { s with host := t.host, cu := t.cu, sticky := t.sticky })
    ∧ (∀ r, s.cu.wait = some (.raw .pending r) →
      ∃ t, exec .abort s = .next t ∧ s.completedAs t 0x0F#8 0x08#8 0x00#8
        ∧ t = { s with host := t.host, cu := t.cu, sticky := t.sticky, segA := t.segA, segB := t.segB }
        ∧ ∀ x, t.seg x = { s.seg x with rawPending := if x = r.segment then false else (s.seg x).rawPending })
    ∧ ∀ r st, st = .onSegment ∨ st = .aborted → s.cu.wait = some (.raw st r) →
      ∃ t, exec .abort s = .next t ∧ s.byteDone t ∧ t = { s with host := t.host, cu := t.cu }
        ∧ t.cu = { s.cu with cmd := 0x0F#8, taken := some { code := 0x0F#8, arg := s.cu.arg }
                             wait := some (.raw .aborted r) }
        ∧ t.readReg 0x04#7 = 0x0F#8 ∧ t.readReg 0x06#7 = 0xFF#8 ∧ t.readReg 0x07#7 = 0x07#8

/-! ### Time, due times, attention and the arbiters -/

/-- Both counters derive from one count of elapsed units. A unit that completes no tick moves the count alone; one that
completes a tick raises the tick count and counts down every quarantined target while the collector is not STOPPED. Either
row carries that unit, and TICK does nothing where none is due (log 9). A countdown at 0 ends the quarantine. -/
def Obligations.TimeAdvancesAndQuarantinesExpire : Prop :=
  (∀ s : State, s.stamp.toNat = s.elapsed % 2 ^ 32 ∧ s.tickCount.toNat = s.elapsed / 100 % 2 ^ 32)
    ∧ ∀ s : State, s.inReset = false →
      ((s.elapsed + 1) % 100 ≠ 0 →
        exec .tick s = .next s
        ∧ ∃ t, exec .stampCounterAdvance s = .next t ∧ t = { s with elapsed := s.elapsed + 1 }
          ∧ t.stamp = s.stamp + 1 ∧ t.tickCount = s.tickCount)
      ∧ ((s.elapsed + 1) % 100 = 0 → ∀ c ∈ [Instr.tick, .stampCounterAdvance],
        ∃ t, exec c s = .next t ∧ t = { s with elapsed := s.elapsed + 1, targets := t.targets }
          ∧ t.stamp = s.stamp + 1 ∧ t.tickCount = s.tickCount + 1
          ∧ ∀ k, t.target k =
              if s.collector ≠ .stopped ∧ (s.target k).health = .quarantined then
                { s.target k with remaining := (s.target k).remaining - 1 }
              else s.target k)
      ∧ ∀ k, (s.target k).health = .quarantined → (s.target k).remaining = 0 →
          ∃ t, exec (.backoffExpiry k) s = .next t ∧ t = { s with targets := t.targets }
            ∧ t.target k = { s.target k with health := .probing } ∧ ∀ j, j ≠ k → t.target j = s.target j

/-- A due time is reached, and of two due ticks one is earlier, by arithmetic modulo 2^32; a due-time event and the arbiter
use these tests (R23). -/
def Obligations.DueTimesAreComparedModulo : Prop :=
  (∀ D T : Long, reached D T = true ↔ (T.toNat + 2 ^ 32 - D.toNat) % 2 ^ 32 < 2 ^ 31)
    ∧ (∀ (D : Long) (k : Nat), 1 ≤ k → k ≤ 2 ^ 31 → reached (D + BitVec.ofNat 32 k) D = false)
    ∧ (∀ (D : Long) (k : Nat), k < 2 ^ 31 → reached D (D + BitVec.ofNat 32 k) = true)
    ∧ reached 0xFFFFFFF0#32 0x00000005#32 = true ∧ reached 0x00000005#32 0xFFFFFFF0#32 = false
    ∧ (∀ J1 J2 : Long, earlier J1 J2 = true ↔
        1 ≤ (J2.toNat + 2 ^ 32 - J1.toNat) % 2 ^ 32 ∧ (J2.toNat + 2 ^ 32 - J1.toNat) % 2 ^ 32 ≤ 2 ^ 31 - 1)
    ∧ (∀ J : Long, earlier J J = false)
    ∧ (∀ (s : State) (n : EntryNo), s.fallsDue n = true ↔
        s.collector = .running ∧ (s.entry n).defined = true ∧ (s.entry n).d.tier ≠ 0
          ∧ reached (s.entry n).nextDue s.tickCount = true)
    ∧ (∀ (s : State) (n : EntryNo), reached (s.entry n).nextDue s.tickCount = true → s.ticksToDue n = 0)
    ∧ ∀ (tier : BitVec 2) (J1 J2 : Long), ranksAhead (tier, J1) (tier, J2) = earlier J1 J2

/-- A due-time event of entry n: its next-due tick advances by one period, and then the first of skip, overrun and join
whose condition holds; nothing else changes, the One-Shot Lists and the records included (R31). -/
def Obligations.DueTimeEventSkipsOverrunsOrJoins : Prop :=
  ∀ (s : State) (n : EntryNo), s.inReset = false → s.collector = .running → (s.entry n).defined = true →
    (s.entry n).d.tier ≠ 0 → reached (s.entry n).nextDue s.tickCount = true →
    ∀ g, g = s.target (s.entry n).d.target →
      ∀ e, e = { s.entry n with nextDue := (s.entry n).nextDue + (s.entry n).d.period.setWidth 32 } →
    ∃ t, exec (.dueTimeEvent n) s = .next t ∧ t = { s with entries := t.entries } ∧ (∀ m, m ≠ n → t.entry m = s.entry m)
      ∧ ((g.d.enabled = false ∨ g.health = .quarantined ∨ g.health = .held ∨ (s.engine g.d.segment).state = .faulted) →
          t.entry n = e)
      ∧ (g.d.enabled = true → (g.health = .active ∨ g.health = .suspect ∨ g.health = .probing) →
          (s.engine g.d.segment).state ≠ .faulted →
          ((s.entry n).due.isSome = true → t.entry n = { e with overrun := min 15 ((s.entry n).overrun + 1) })
          ∧ ((s.entry n).due = none → t.entry n = { e with due := some (.scheduled (s.entry n).nextDue) }))

/-- A falling edge of ATTN_x spends the detector and, where it was armed and the collector runs with the enable set, puts
every entry that answers it in the attention class; a return to high re-arms the detector. -/
def Obligations.AttentionEdges : Prop :=
  ∀ (s : State) (x : Segment),
    (∃ t, exec (.attnFallingEdge x) s = .next t ∧ t = { s with entries := t.entries, segA := t.segA, segB := t.segB }
      ∧ (∀ y, t.seg y = { s.seg y with attnHigh := if y = x then false else (s.seg y).attnHigh
                                       attnArmed := if y = x then false else (s.seg y).attnArmed })
      ∧ ∀ event, event = (s.inReset = false ∧ (s.seg x).attnHigh = true ∧ (s.seg x).attnArmed = true
            ∧ s.collector = .running ∧ (s.seg x).attnEnable = true ∧ (s.engine x).state ≠ .faulted) →
          ∀ n, (event ∧ s.answersAttention x n → t.entry n = { s.entry n with due := some .attention })
            ∧ (¬ (event ∧ s.answersAttention x n) → t.entry n = s.entry n))
    ∧ ∃ t, exec (.attnRearm x) s = .next t ∧ t = { s with segA := t.segA, segB := t.segB }
      ∧ ∀ y, t.seg y = { s.seg y with attnHigh := if y = x then true else (s.seg y).attnHigh
                                      attnArmed := if y = x then true else (s.seg y).attnArmed }

/-- A selection occasion of a free segment hands the arbiter's choice to the engine, which goes BUSY and makes its free
check; a raw transfer taken in STOPPED latches the segment's configuration afresh. -/
def Obligations.SelectionHandsWorkToTheEngine : Prop :=
  ∀ (s : State) (x : Segment), s.inReset = false → s.free x = true → s.joinsMade = true →
    (s.choose x = none → exec (.selectionOccasion x) s = .next s)
    ∧ (∀ st r, (s.seg x).rawPending = true → s.cu.wait = some (.raw st r) →
        ∀ lat, lat = (if s.collector = .stopped then
                { fast := (s.seg x).cfgFast, multiMaster := (s.seg x).cfgMulti
                  stretch := if (s.seg x).cfgStretch = 0 then 1 else (s.seg x).cfgStretch.toNat
                  busFree := if (s.seg x).cfgBusFree = 0 then 1 else (s.seg x).cfgBusFree.toNat : Latched }
               else (s.engine x).latched) →
        ∀ busy, busy = (decide (s.collector ≠ .stopped) && (s.engine x).busBusy) →
        ∃ t, exec (.selectionOccasion x) s = .next t
          ∧ t = { s with cu := { s.cu with wait := some (.raw .onSegment r) }, segA := t.segA, segB := t.segB }
          ∧ (∀ y, y ≠ x → t.seg y = s.seg y)
          ∧ t.seg x = { s.seg x with
              rawPending := false
              engine := { state := .busy, work := some (.raw r), retries := 0, latched := lat, busBusy := busy
                          received := [], waitSince := s.elapsed
                          stage := if (s.seg x).linesHigh = true ∧ ¬ (lat.multiMaster = true ∧ busy = true)
                                   then .onWire else .freeCheck } })
    ∧ ∀ n c, s.choose x = some (.poll n c) → s.entrySegment n = x → ∀ g, g = s.target (s.entry n).d.target →
        ∃ t, exec (.selectionOccasion x) s = .next t ∧ t = { s with entries := t.entries, segA := t.segA, segB := t.segB }
          ∧ t.entry n = { s.entry n with due := none, inFlight := true } ∧ (∀ m, m ≠ n → t.entry m = s.entry m)
          ∧ (∀ y, y ≠ x → t.seg y = s.seg y)
          ∧ t.seg x = { s.seg x with
              oneShot := (s.seg x).oneShot.filter (· != n)
              engine := { s.engine x with
                state := .busy, retries := 0, received := [], waitSince := s.elapsed
                work := some (.poll { entry := n, target := (s.entry n).d.target, address := g.d.address
                                      pointer := (s.entry n).d.pointer, pointerPresent := (s.entry n).d.pointerPresent
                                      length := (s.entry n).d.length, check := g.d.check, stopBetween := g.d.stopBetween
                                      cause := c, probe := decide (g.health = .probing) })
                stage := if (s.seg x).linesHigh = true
                            ∧ ¬ ((s.engine x).latched.multiMaster = true ∧ (s.engine x).busBusy = true)
                         then .onWire else .freeCheck } }

/-- The arbiter's order (R43): the pending raw transfer; in RUNNING and STOPPING then the oldest one-shot request; then the
lowest attention-class entry; then the scheduled-class entry of the lowest tier, longest waiting, lowest number. The last
is said of join due ticks that are all reached, so that R23 orders them; the model's choice for others is log 33's. -/
def Obligations.ArbiterChoosesByRank : Prop :=
  ∀ (s : State) (x : Segment),
    ((s.seg x).rawPending = true → s.choose x = some .raw)
    ∧ ((s.seg x).rawPending = false → s.collector = .stopped → s.choose x = none)
    ∧ ((s.seg x).rawPending = false → s.collector ≠ .stopped →
        (∀ n rest, (s.seg x).oneShot = n :: rest → s.choose x = some (.poll n .oneShot))
        ∧ ((s.seg x).oneShot = [] → ∀ attn, attn = (fun n => s.entrySegment n = x ∧ (s.entry n).due = some .attention) →
            (∀ n, s.choose x = some (.poll n .attention) ↔ attn n ∧ ∀ m, attn m → n ≤ m)
            ∧ ((∀ n, ¬ attn n) →
                ((∀ n, s.entrySegment n = x → (s.entry n).due = none) → s.choose x = none)
                ∧ ((∀ n j, s.entrySegment n = x → (s.entry n).due = some (.scheduled j) → reached j s.tickCount = true) →
                    ∀ n j, s.entrySegment n = x → (s.entry n).due = some (.scheduled j) →
                      (s.choose x = some (.poll n .scheduled) ↔
                        ∀ m i, m ≠ n → s.entrySegment m = x → (s.entry m).due = some (.scheduled i) →
                          (s.entry n).d.tier < (s.entry m).d.tier
                          ∨ ((s.entry n).d.tier = (s.entry m).d.tier
                              ∧ ((s.tickCount - i).toNat < (s.tickCount - j).toNat
                                  ∨ ((s.tickCount - i).toNat = (s.tickCount - j).toNat ∧ n < m))))))))

/-! ### The Segment Engines -/

/-- What an engine sees of its lines: a line that reads high falls and is noted with its moment, and one that reads low
already stays as it is; lines that come to read high let a waiting free check issue its START and a waiting bus check end.
The bus-busy indication and the waits on other masters: a foreign START, a STOP, and the bus-free limit. From when the wait
is timed, where a foreign START begins it, is the model's reading (log 15). A foreign START and a STOP of another master leave
the noted levels of the lines as they are: those have rows of their own (log 13). A STOP while a stop-between transaction is
on the wire is the engine's own intermediate one (log 32), which leaves both lines high (log 13); a foreign START behind it in
multi-master mode loses the arbitration. -/
def Obligations.LinesAndOtherMasters : Prop :=
  (∀ (s : State) (x : Segment),
    (∀ l, ∀ v, v = (if l = .scl then (s.seg x).scl else (s.seg x).sda) →
      (v.high = true → ∃ t, exec (.lineFall x l) s = .next t ∧ t = { s with segA := t.segA, segB := t.segB }
        ∧ (∀ y, y ≠ x → t.seg y = s.seg y)
        ∧ t.seg x = { s.seg x with scl := if l = .scl then { high := false, fell := s.elapsed } else (s.seg x).scl
                                   sda := if l = .sda then { high := false, fell := s.elapsed } else (s.seg x).sda })
      ∧ (v.high = false → exec (.lineFall x l) s = .next s))
    ∧ ∀ l, ∀ up, up = decide (((s.seg x).scl.high = true ∨ l ≠ .sda) ∧ ((s.seg x).sda.high = true ∨ l ≠ .scl)) →
        ∃ t, exec (.busFree x l) s = .next t ∧ t = { s with segA := t.segA, segB := t.segB }
          ∧ (∀ y, y ≠ x → t.seg y = s.seg y)
          ∧ t.seg x = { s.seg x with
              scl := { (s.seg x).scl with high := (s.seg x).scl.high || decide (l ≠ .sda) }
              sda := { (s.seg x).sda with high := (s.seg x).sda.high || decide (l ≠ .scl) }
              engine := { (s.engine x) with
                state := if (s.engine x).stage = .busCheck ∧ up = true then .idle else (s.engine x).state
                stage :=
                  if (s.engine x).stage = .freeCheck ∧ up = true
                      ∧ ¬ ((s.engine x).latched.multiMaster = true ∧ (s.engine x).busBusy = true) then .onWire
                  else if (s.engine x).stage = .busCheck ∧ up = true then .none
                  else (s.engine x).stage } })
  ∧
  (∀ (s : State) (x : Segment), s.inReset = false →
    ((s.engine x).state ≠ .faulted →
      ∃ u, u = s.modSeg x (fun g => g.withEngine fun e => { e with
            busBusy := true
            waitSince := if e.stage = .freeCheck ∧ e.busBusy = false then s.elapsed else e.waitSince })
        ∧ (((s.engine x).stage ≠ .stopGap ∨ (s.engine x).latched.multiMaster = false ∨ (s.engine x).work = none) →
            exec (.foreignStartSeen x) s = .next u)
        ∧ ((s.engine x).stage = .stopGap → (s.engine x).latched.multiMaster = true → (s.engine x).work ≠ none →
            ∃ t, exec (.foreignStartSeen x) s = .next t ∧ exec (.arbitrationLoss x) u = .next t))
    ∧ ((s.engine x).state ≠ .faulted →
        ∃ t, exec (.busStopSeen x) s = .next t ∧ t = { s with segA := t.segA, segB := t.segB }
          ∧ (∀ y, y ≠ x → t.seg y = s.seg y)
          ∧ ∀ gap, gap = decide (∃ w, (s.engine x).work = some w ∧ w.xfer.stopBetween = true ∧ w.xfer.hasWrite = true
                ∧ w.xfer.hasRead = true) →
            ∀ own, own = (decide ((s.engine x).stage = .onWire) && gap) →
            t.seg x = { s.seg x with
              scl := { (s.seg x).scl with high := (s.seg x).scl.high || own }
              sda := { (s.seg x).sda with high := (s.seg x).sda.high || own }
              engine := { s.engine x with
                busBusy := false
                waitSince := if (s.engine x).stage = .arbWait then s.elapsed else (s.engine x).waitSince
                stage := if (s.engine x).stage = .freeCheck ∨ (s.engine x).stage = .arbWait then
                           (if (s.seg x).linesHigh then .onWire else .freeCheck)
                         else if own = true then .stopGap
                         else (s.engine x).stage } })
    ∧ (((s.engine x).stage = .arbWait ∨ ((s.engine x).stage = .freeCheck
          ∧ (s.engine x).latched.multiMaster = true ∧ (s.engine x).busBusy = true)) →
        (s.engine x).waitSince + 100 * (s.engine x).latched.busFree ≤ s.elapsed →
        ∃ t, exec (.busBusyTimeout x) s = .next t ∧ t = { s with segA := t.segA, segB := t.segB }
          ∧ (∀ y, y ≠ x → t.seg y = s.seg y)
          ∧ t.seg x = { s.seg x with engine := { s.engine x with
              busBusy := false
              waitSince := if (s.engine x).stage = .arbWait then s.elapsed else (s.engine x).waitSince
              stage := if (s.seg x).linesHigh then .onWire else .freeCheck } })
    ∧ ((s.engine x).state = .faulted →
        exec (.foreignStartSeen x) s = .next s ∧ exec (.busStopSeen x) s = .next s))

/-- A line low for the bus-free limit in a free check or bus check starts the bus clear, whose beginning is noted. One in which every wait on SCL, after
each of its pulses and for the STOP, stays below the stretch limit succeeds where both lines read high after the STOP: the
STOP clears the bus-busy indication, and the held work goes on with its first START, or the segment is ready. There are as
many pulses as SDA is found low in a row, nine at most. How the pulses ran is carried by the command (log 14). -/
def Obligations.BusClearStartsAndSucceeds : Prop :=
  ∀ (s : State) (x : Segment), s.inReset = false →
    ((s.engine x).stage = .freeCheck ∨ (s.engine x).stage = .busCheck →
      (((s.seg x).scl.high = false ∧ (s.seg x).scl.fell + ((100 * (s.engine x).latched.busFree : Nat) : Int) ≤ (s.elapsed : Int))
        ∨ ((s.seg x).sda.high = false
            ∧ (s.seg x).sda.fell + ((100 * (s.engine x).latched.busFree : Nat) : Int) ≤ (s.elapsed : Int))) →
      ∃ t, exec (.busClear x) s = .next t ∧ t = { s with segA := t.segA, segB := t.segB } ∧ (∀ y, y ≠ x → t.seg y = s.seg y)
        ∧ t.seg x = { s.seg x with engine := { s.engine x with state := .clearing, stage := .none, waitSince := s.elapsed } })
    ∧ ∀ (r : ClearRun) (pulses : Nat), r.segment = x → pulses ≤ 9 → (∀ i, i < pulses → r.sda.getD i true = false) →
      (pulses < 9 → r.sda.getD pulses true = true) →
      ((s.engine x).state = .clearing → (∀ i, i ≤ pulses → r.sclWaits.getD i 0 < 100 * (s.engine x).latched.stretch) →
        ∃ t, exec (.busClearSuccess r) s = .next t ∧ t = { s with segA := t.segA, segB := t.segB }
          ∧ (∀ y, y ≠ x → t.seg y = s.seg y)
          ∧ t.seg x = { s.seg x with
              scl := { (s.seg x).scl with high := true }, sda := { (s.seg x).sda with high := true }
              engine := { s.engine x with state := if (s.engine x).work.isSome then .busy else .idle
                                          stage := if (s.engine x).work.isSome then .onWire else .none
                                          busBusy := false } })
      ∧ (∀ i, i ≤ pulses → 100 * (s.engine x).latched.stretch ≤ r.sclWaits.getD i 0 →
          exec (.busClearSuccess r) s = .next s)

/-- A bus clear that fails, at a wait on SCL that reaches the stretch limit or with a line low after its STOP, with no load
deferred behind the segment's poll: the segment is FAULTED and its lists are empty, its work ends with BUS_STUCK, a pending
raw transfer is withdrawn, one BUS_STUCK record is handed over, SEGERR is set, and a drain that waited for this engine alone
ends. The lines that do not still read low are noted as high; one that does fell last at the latest of its noted fall, the
moment the command gives and, where it read high at some moment of the clear, the clear's beginning. That the command carries
how the pulses ran, which lines still read low and for how long is the model's choice (log 14). -/
def Obligations.BusClearFailureFaultsTheSegment : Prop :=
  ∀ (s : State) (x : Segment) (r : ClearRun) (left : LeftLow) (pulses : Nat), s.inReset = false → r.segment = x →
    (s.engine x).state = .clearing → (∀ p ∈ (s.engine x).poll, s.deferredBehind p = false) →
    pulses ≤ 9 → (∀ i, i < pulses → r.sda.getD i true = false) → (pulses < 9 → r.sda.getD pulses true = true) →
    ∀ L, L = 100 * (s.engine x).latched.stretch →
    (((∀ i, i ≤ pulses → r.sclWaits.getD i 0 < L) ∧ (left.scl.isSome = true ∨ left.sda.isSome = true))
      ∨ ∃ i, i ≤ pulses ∧ L ≤ r.sclWaits.getD i 0 ∧ (∀ j, j < i → r.sclWaits.getD j 0 < L)
          ∧ ∃ k ∈ left.scl, r.sclWaits.getD i 0 ≤ k) →
    ∀ q, q = s.queue.admitGroup s.ctrl.evict s.port.pinned s.stamp
          [.fault none none .busStuck none (match x with | .a => 0 | .b => 1)] →
    ∃ t, exec (.busClearFail r left) s = .next t
      ∧ t = { s with cu := t.cu, collector := t.collector, entries := t.entries, segA := t.segA, segB := t.segB
                     queue := q.1
                     sticky := { s.sticky with segerr := true, loss := s.sticky.loss || q.2, cmd := t.sticky.cmd } }
      ∧ (∀ y, y ≠ x → t.seg y = s.seg y)
      ∧ t.seg x = { s.seg x with
          oneShot := [], rawPending := false
          scl := match left.scl with
                 | none => { (s.seg x).scl with high := true }
                 | some k =>
                   { high := false
                     fell := max ((s.elapsed : Int) - (k : Int))
                       (if r.sclWaits.getD 0 0 < L then max (s.seg x).scl.fell ((s.engine x).waitSince : Int)
                        else (s.seg x).scl.fell) }
          sda := match left.sda with
                 | none => { (s.seg x).sda with high := true }
                 | some k =>
                   { high := false
                     fell := max ((s.elapsed : Int) - (k : Int))
                       (if pulses < 9 ∧ ∀ i, i < pulses → r.sclWaits.getD i 0 < L
                        then max (s.seg x).sda.fell ((s.engine x).waitSince : Int) else (s.seg x).sda.fell) }
          engine := { s.engine x with state := .faulted, work := none, stage := .none, received := [] } }
      ∧ (∀ n, ∀ polled, polled = decide (∃ p ∈ (s.engine x).poll, p.entry = n) →
          t.entry n = { s.entry n with
            due := if s.entrySegment n = x then none else (s.entry n).due
            run := if polled = true ∧ (s.entry n).d.bandEnable = true then none else (s.entry n).run
            inFlight := if polled then false else (s.entry n).inFlight })
      ∧ t.collector = (if s.collector = .stopping ∧ t.drained = true then .stopped else s.collector)
      ∧ (s.collector ≠ .stopping → (s.seg x).rawPending = false → ∀ r0 st r1, (s.engine x).raw = some r0 →
          s.cu.wait = some (.raw st r1) → s.endsAs t (if st = .aborted then 0x08#8 else 0x15#8))
      ∧ (s.collector ≠ .stopping → (s.seg x).rawPending = true → (s.engine x).raw = none → s.endsAs t 0x15#8)
      ∧ (s.collector ≠ .stopping → (s.seg x).rawPending = false → (s.engine x).raw = none →
          t.cu = s.cu ∧ t.sticky.cmd = s.sticky.cmd)
      ∧ (s.collector = .stopping → s.cu.wait = some .stop → (s.seg x).rawPending = false → (s.engine x).raw = none →
          if t.collector = .stopped then s.endsAs t 0x01#8 else t.cu = s.cu ∧ t.sticky.cmd = s.sticky.cmd)

/-- What ends work on the wire before its STOP, behind an intermediate STOP included. A wait that has reached the stretch
limit: held on SCL the outcome is STRETCH_TIMEOUT, and the STOP that the engine then attempts, where SCL comes high within a
further limit and SDA within one after that, clears the bus-busy indication; held on SDA it is the error already found,
ADDR_NACK or DATA_NACK of the first byte not acknowledged, and STRETCH_TIMEOUT where none was (the operands of the event:
log 12; SCL held after a not-acknowledge: log 31; the stage behind an intermediate STOP: log 32; its wait held on SDA, with
no STOP attempted: log 35; that it ends at exactly the limit: log 36). A line that the engine leaves low is noted as low, and
one that came high as high; that one left low fell last at the moment the command gives, or at its noted fall where that is
later, is the model's choice (log 34).
And the third arbitration loss in multi-master mode; the first and second restart the work. -/
def Obligations.StretchTimeoutAndArbitrationLoss : Prop :=
  ∀ (s : State) (x : Segment), s.inReset = false → ((s.engine x).stage = .onWire ∨ (s.engine x).stage = .stopGap) →
    (∀ (w : Work) (line : LineName) (waited : Nat) (h : HeldTransfer) (o : WorkOutcome),
      (s.engine x).work = some w → 100 * (s.engine x).latched.stretch ≤ waited →
      ((o = .stretchTimeout ∧ (line = .scl ∨ ∀ i, i < w.xfer.sent.length → h.acks.getD i true = true))
        ∨ (line = .sda ∧ ∃ i, (w.xfer.sent[i]?.map Prod.snd) = some o ∧ h.acks.getD i true = false
            ∧ ∀ j, j < i → h.acks.getD j true = true)) →
      ∀ L, L = 100 * (s.engine x).latched.stretch →
      ∀ gap, gap = decide ((s.engine x).stage = .stopGap ∧ h.acks.length < w.xfer.sent.length) →
      ∀ u, u = s.modSeg x (fun g => { g with
            scl := if line = .scl ∧ 2 * L ≤ waited then
                     { high := false, fell := max g.scl.fell ((s.elapsed : Int) - ((waited + h.lowBefore : Nat) : Int)) }
                   else if line = .sda ∧ gap = true then g.scl else { g.scl with high := true }
            sda := if line = .sda then
                     { high := false, fell := max g.sda.fell ((s.elapsed : Int) - ((waited + h.lowBefore : Nat) : Int)) }
                   else if 2 * L ≤ waited then g.sda
                   else if L ≤ h.sdaWait then
                     { high := false, fell := max g.sda.fell ((s.elapsed : Int) - ((h.sdaWait + h.lowBefore : Nat) : Int)) }
                   else { g.sda with high := true }
            engine := { g.engine with
              busBusy := if line = .scl ∧ waited < 2 * L ∧ h.sdaWait < L then false else g.engine.busBusy } }) →
      (∀ p, w = .poll p → s.deferredBehind p = false →
        ∃ t, exec (.stretchTimeout x line waited h) s = .next t ∧ u.pollEnds t x p o [])
      ∧ ∀ r st r', w = .raw r → s.cu.wait = some (.raw st r') → st ≠ .pending →
        ∃ t, exec (.stretchTimeout x line waited h) s = .next t ∧ u.rawEnds t x st r o [])
    ∧ (∀ line waited h, waited < 100 * (s.engine x).latched.stretch →
        exec (.stretchTimeout x line waited h) s = .next s)
    ∧ ((s.engine x).latched.multiMaster = false → exec (.arbitrationLoss x) s = .next s)
    ∧ ((s.engine x).latched.multiMaster = true → (s.engine x).work ≠ none →
      ((s.engine x).retries < 2 →
        ∃ t, exec (.arbitrationLoss x) s = .next t ∧ t = { s with segA := t.segA, segB := t.segB }
          ∧ (∀ y, y ≠ x → t.seg y = s.seg y)
          ∧ t.seg x = { s.seg x with engine := { s.engine x with
              retries := (s.engine x).retries + 1, received := [], stage := .arbWait, waitSince := s.elapsed } })
      ∧ ((s.engine x).retries = 2 →
        (∀ p, (s.engine x).poll = some p → s.deferredBehind p = false →
          ∃ t u, exec (.arbitrationLoss x) s = .next t
            ∧ u = s.modSeg x (fun g => g.withEngine fun e => { e with retries := 3, waitSince := s.elapsed })
            ∧ u.pollEnds t x p .arbLost [])
        ∧ ∀ r st, (s.engine x).raw = some r → s.cu.wait = some (.raw st r) → st ≠ .pending →
          ∃ t u, exec (.arbitrationLoss x) s = .next t
            ∧ u = s.modSeg x (fun g => g.withEngine fun e => { e with retries := 3, waitSince := s.elapsed })
            ∧ u.rawEnds t x st r .arbLost []))

/-- A poll's transaction runs to its STOP, with no load deferred behind it: the work ends with the outcome and the data the
acknowledges and the bytes on the wire give, and the STOP leaves both lines high and clears the bus-busy indication. Behind the
intermediate STOP of the stop-between form both lines must read high for the new START; while one reads low the transaction waits: that a stage of
its own stands behind the intermediate STOP, and that the completion carries the new START, is the model's choice (log 32).
A position nobody drives reads high (log 11). The records it hands over: those of a success by its value, one Fault record of
the entry for any other outcome and none for BUS_STUCK, the RESTORED record of a successful probe, and a DROPPED record for
each request that a quarantine removes. -/
def Obligations.PollCompletes : Prop :=
  (∀ (s : State) (x : Segment) (w : WireResponse) (p : PollWork), s.inReset = false →
    (s.engine x).work = some (.poll p) → s.deferredBehind p = false →
    ∀ xf, xf = (Work.poll p).xfer →
    (((s.engine x).stage = .onWire
        ∨ ((s.engine x).stage = .stopGap ∧ (s.seg x).scl.high = true ∧ (s.seg x).sda.high = true)) →
      ∃ t u, exec (.completion x w) s = .next t
        ∧ u = s.modSeg x (fun g => { g with scl := { g.scl with high := true }, sda := { g.sda with high := true }
                                            engine := { g.engine with busBusy := false } })
        ∧ u.pollEnds t x p (xf.outcome w.acks (xf.receive w)) ((xf.receive w).take p.length.val))
    ∧ ((s.engine x).stage = .stopGap → ((s.seg x).scl.high = false ∨ (s.seg x).sda.high = false) →
        exec (.completion x w) s = .next s))
    ∧ (∀ (e : Entry) (p : PollWork) (g : Target) (data : List Byte),
        e.process p g .success data = e.succeed p.entry p.cause p.probe data
        ∧ (∀ f ∈ [(WorkOutcome.addrNack, FaultCode.addrNack), (.dataNack, .dataNack), (.stretchTimeout, .stretchTimeout),
              (.checkFail, .checkFail), (.arbLost, .arbLost)],
            e.process p g f.1 data =
              { entry := if e.d.bandEnable then { e with run := none } else e
                records := [.fault (some p.target) (some p.entry) f.2 (some g.health) g.failures], transition := false })
        ∧ e.process p g .busStuck data =
            { entry := if e.d.bandEnable then { e with run := none } else e, records := [], transition := false })
    ∧ (∀ (p : PollWork) (v : Verdict), restoredRecords p v =
        if v = .restored then [.fault (some p.target) (some p.entry) .restored (some .active) 0] else [])
    ∧ ∀ (s : State) (k : TargetNo) (g : Target), s.droppedRecords k g =
        ((s.seg (s.target k).d.segment).oneShot.filter fun n => (s.entry n).d.target == k).map
          fun n => .fault (some k) (some n) .dropped (some g.health) g.failures

/-- A poll with a load deferred behind it ends, whatever its outcome: at its STOP, by a wait that reaches the stretch limit,
by the third arbitration loss, or by a failed bus clear. DEFERRED_LOAD_END and the poll's completion are one event (log 7);
the stage behind an intermediate STOP is log 32's. The poll is processed as without the load, then the load is applied, the
entry leaves flight, and the load completes with OK. -/
def Obligations.DeferredLoadAppliesBehindItsPoll : Prop :=
  ∀ (s : State) (x : Segment) (p : PollWork), s.inReset = false → (s.engine x).work = some (.poll p) →
    s.deferredBehind p = true →
    (∀ w, exec (.deferredLoadEnd x w) s = exec (.completion x w) s) ∧
    ∀ c, s.endsPoll x c →
    ∃ t u, exec c s = .next t
      ∧ exec c { s with cu := { s.cu with wait := none } } = .next u ∧ s.endsAs t 0x01#8
      ∧ (∀ cand, s.cu.wait = some (.entryLoad p.entry cand) →
          t = { u with cu := t.cu, sticky := { u.sticky with cmd := true }, entries := t.entries, segA := t.segA
                       segB := t.segB, limit := t.limit, bandPending := u.bandPending &&& ~~~(1#32 <<< p.entry.val) }
          ∧ t.entry p.entry =
              { Entry.empty with defined := cand.isSome, d := cand.getD EntryDef.zero
                                 nextDue := if s.collector = .running ∧ cand.isSome
                                            then s.tickCount + (cand.getD EntryDef.zero).phase.setWidth 32 else 0 }
          ∧ (∀ m, m ≠ p.entry → t.entry m = u.entry m)
          ∧ (∀ y, t.seg y = { u.seg y with oneShot := if y = u.entrySegment p.entry
                then (u.seg y).oneShot.filter (· != p.entry) else (u.seg y).oneShot })
          ∧ t.limitLawHolds)
      ∧ ∀ d, s.cu.wait = some (.targetLoad p.target d) →
          t = { u with cu := t.cu, sticky := { u.sticky with cmd := true }, entries := t.entries, targets := t.targets
                       segA := t.segA, segB := t.segB }
          ∧ t.target p.target =
              { d := d, health := .active, failures := 0, remaining := 0, current := d.baseBackoff.toNat }
          ∧ (∀ k, k ≠ p.target → t.target k = u.target k)
          ∧ (∀ n, t.entry n = if d.enabled = false ∧ (u.entry n).d.target = p.target then { u.entry n with due := none }
                              else u.entry n)
          ∧ ∀ y, t.seg y = { u.seg y with
              oneShot := if d.enabled = false ∧ y = (s.target p.target).d.segment
                         then (u.seg y).oneShot.filter fun n => (u.entry n).d.target != p.target else (u.seg y).oneShot }

/-- A raw transfer runs to its STOP: its command completes with the raw result, or with ABORTED where it was aborted on
the segment, the bytes it read are stored in the raw buffer on success and CHECK_FAIL alone, and the STOP leaves both
lines high and clears the bus-busy indication. Behind the intermediate STOP of the stop-between form both lines must read high for the new START;
while one reads low the transfer waits: that a stage of its own stands behind the intermediate STOP, and that the completion
carries the new START, is the model's choice (log 32). A position nobody drives reads high (log 11). -/
def Obligations.RawTransferCompletes : Prop :=
  ∀ (s : State) (x : Segment) (w : WireResponse) (r : RawParams) (st : RawStage), s.inReset = false →
    s.memoryLaw → (s.engine x).work = some (.raw r) → s.cu.wait = some (.raw st r) →
    st ≠ .pending → ∀ xf, xf = (Work.raw r).xfer →
    (((s.engine x).stage = .onWire
        ∨ ((s.engine x).stage = .stopGap ∧ (s.seg x).scl.high = true ∧ (s.seg x).sda.high = true)) →
      ∃ t u, exec (.rawTransferCompletion x w) s = .next t
        ∧ u = s.modSeg x (fun g => { g with scl := { g.scl with high := true }, sda := { g.sda with high := true }
                                            engine := { g.engine with busBusy := false } })
        ∧ u.rawEnds t x st r (xf.outcome w.acks (xf.receive w)) ((xf.receive w).take r.readCount.val))
    ∧ ((s.engine x).stage = .stopGap → ((s.seg x).scl.high = false ∨ (s.seg x).sda.high = false) →
        exec (.rawTransferCompletion x w) s = .next s)

/-- The outcome of a transaction that ran to its STOP: success exactly when every byte sent was acknowledged and the check
byte, where there is one, is the expected one; otherwise the error of the first byte not acknowledged, or CHECK_FAIL. The
bytes sent in wire order: an address byte carries ADDR_NACK, a pointer or write byte DATA_NACK (R57, R58), and what a poll
and a raw transfer send. An acknowledge or a byte that nobody drives reads high, and so is a not-acknowledge or FFh (log 11). -/
def Obligations.OutcomeOfATransaction : Prop :=
  ∀ (x : Xfer) (w : WireResponse),
    (x.outcome w.acks (x.receive w) = .success ↔ (∀ i, i < x.sent.length → w.acks.getD i false = true)
        ∧ (x.checked = true → w.reads.getD x.reads 0xFF#8 = x.expectedCheck (x.receive w)))
    ∧ (x.outcome w.acks (x.receive w) = .checkFail ↔ (∀ i, i < x.sent.length → w.acks.getD i false = true)
        ∧ x.checked = true ∧ w.reads.getD x.reads 0xFF#8 ≠ x.expectedCheck (x.receive w))
    ∧ (∀ e, e = .addrNack ∨ e = .dataNack →
        (x.outcome w.acks (x.receive w) = e ↔
          ∃ i, i < x.sent.length ∧ (x.sent[i]?.map Prod.snd) = some e ∧ w.acks.getD i false = false
            ∧ ∀ j, j < i → w.acks.getD j false = true))
    ∧ ((∀ i, i < x.sent.length → w.acks.getD i false = true) →
        ∀ i, i < x.reads → (x.receive w).getD i 0 = w.reads.getD i 0xFF#8)
    ∧ x.sent = (if x.writes ≠ [] ∨ x.reads = 0 then (x.address ++ 0#1, .addrNack) :: x.writes.map (fun b => (b, .dataNack))
                else [])
        ++ (if x.reads = 0 then [] else [(x.address ++ 1#1, .addrNack)])
    ∧ (x.checked = true ↔ x.check = true ∧ x.reads ≠ 0)
    ∧ (∀ p : PollWork, (Work.poll p).xfer =
        { address := p.address, writes := if p.pointerPresent then [p.pointer] else [], reads := p.length.val
          check := p.check, stopBetween := p.stopBetween })
    ∧ ∀ r : RawParams, (Work.raw r).xfer =
        { address := r.address, writes := r.write, reads := r.readCount.val, check := r.check, stopBetween := r.stopBetween }

/-! ### Values, reports, bands, health and the queue -/

/-- The check byte is the CRC-8 of the transaction's bytes in wire order, most significant bit first, generator 07h, initial
value 00h, with no reflection or inversion; the check byte itself, and START and STOP conditions, are not in it (R55). -/
def Obligations.CheckByteIsTheCrc8 : Prop :=
  (∀ bs : List Byte, crc8 bs = (bs.flatMap bitsOf).foldl crcBit 0x00#8)
    ∧ (∀ bs : List Byte, crc8 (bs ++ [crc8 bs]) = 0x00#8)
    ∧ (∀ (p : PollWork) (received : List Byte), (Work.poll p).xfer.expectedCheck received =
        crc8 ((if p.pointerPresent then [p.address ++ 0#1, p.pointer] else if p.length.val = 0 then [p.address ++ 0#1] else [])
          ++ (if p.length.val = 0 then [] else [p.address ++ 1#1]) ++ received.take p.length.val))
    ∧ (∀ (r : RawParams) (received : List Byte), (Work.raw r).xfer.expectedCheck received =
        crc8 ((if r.write = [] ∧ r.readCount.val ≠ 0 then [] else (r.address ++ 0#1) :: r.write)
          ++ (if r.readCount.val = 0 then [] else [r.address ++ 1#1]) ++ received.take r.readCount.val))
    ∧ ∀ (r b : Byte) (sh : Byte → Byte),
        sh = (fun x : Byte => if x.getLsbD 7 = true then (x <<< 1) ^^^ 0x07#8 else x <<< 1) →
        crcByte r b = sh (sh (sh (sh (sh (sh (sh (sh (r ^^^ b))))))))

/-- The value of a poll's data bytes by the entry's value format, and the range it lies in (R91); and what a successful poll
with that value forms: by the report mode a Sample record, which takes the overrun count and clears it, every time in ALWAYS
and never in SILENT, and then a Band record exactly where the Band Monitor makes a transition and band record is set. -/
def Obligations.ValueByTheValueFormat : Prop :=
  (∀ (d : EntryDef) (data : List Byte), d.offset.val + widthBytes d.wide ≤ data.length →
      ∀ b0, b0 = (data.getD d.offset.val 0).toNat → ∀ b1, b1 = (data.getD (d.offset.val + 1) 0).toNat →
      ∀ raw, raw = (if d.wide = true then (if d.highFirst = true then 256 * b0 + b1 else b0 + 256 * b1) else b0) →
      d.value data =
          (if d.signed = true ∧ (if d.wide = true then 32768 else 128) ≤ raw
           then (raw : Int) - (if d.wide = true then 65536 else 256) else (raw : Int))
        ∧ (d.wide = false → d.signed = false → 0 ≤ d.value data ∧ d.value data ≤ 255)
        ∧ (d.wide = false → d.signed = true → -128 ≤ d.value data ∧ d.value data ≤ 127)
        ∧ (d.wide = true → d.signed = false → 0 ≤ d.value data ∧ d.value data ≤ 65535)
        ∧ (d.wide = true → d.signed = true → -32768 ≤ d.value data ∧ d.value data ≤ 32767))
    ∧ (∀ d : EntryDef, d.wide = true → d.offset = 0 →
        (d.highFirst = true → d.value [0x0C#8, 0x80#8] = 3200)
        ∧ (d.highFirst = false → d.signed = false → d.value [0x0C#8, 0x80#8] = 32780)
        ∧ (d.highFirst = false → d.signed = true → d.value [0x0C#8, 0x80#8] = -32756))
    ∧ (∀ d : EntryDef, d.sound → d.offset.val + widthBytes d.wide ≤ d.length.val)
    ∧ ∀ (e : Entry) (n : EntryNo) (c : Cause) (probe : Bool) (data : List Byte), ∀ v, v = e.d.value data →
        (e.d.mode = .always → e.report v data = (e, some (false, data)))
        ∧ (e.d.mode = .silent → e.report v data = (e, none))
        ∧ (e.d.mode = .onChange → ∀ x, (e.report v data).2 = some x → x = (false, data))
        ∧ ∀ e', e' = (if (e.report v data).2.isSome then { (e.report v data).1 with overrun := 0 } else (e.report v data).1) →
          e.succeed n c probe data =
            { entry := (e'.classify v).1
              records := (match (e.report v data).2 with
                  | some x => [.sample n c x.1 probe e.overrun x.2]
                  | none => [])
                ++ (match (e'.classify v).2 with
                  | some t => if e.d.bandRecord = true then [.band n t.1 t.2 (BitVec.ofInt 16 v)] else []
                  | none => [])
              transition := (e'.classify v).2.isSome }

/-- ON_CHANGE: a report when there is no last value or the value lies more than the deadband from the last one reported,
which it then becomes; otherwise no record and no change (R95). -/
def Obligations.OnChangeReportsBeyondTheDeadband : Prop :=
  ∀ (e : Entry) (v : Int) (data : List Byte), e.d.mode = .onChange →
    rangeLow e.d.signed ≤ v → v ≤ rangeHigh e.d.signed →
    (e.lastExists = false ∨ (e.d.deadband.toNat : Int) < |v - fieldInt e.d.signed e.last| →
      (e.report v data).2 = some (false, data)
        ∧ (e.report v data).1 = { e with last := (e.report v data).1.last, lastExists := true }
        ∧ fieldInt e.d.signed (e.report v data).1.last = v)
    ∧ (e.lastExists = true → |v - fieldInt e.d.signed e.last| ≤ (e.d.deadband.toNat : Int) →
        e.report v data = (e, none))
    ∧ (e.lastExists = true → e.d.deadband = 0 → ((e.report v data).2 = none ↔ v = fieldInt e.d.signed e.last))
    ∧ (e.lastExists = true → e.d.deadband = 0xFFFF#16 → (e.report v data).2 = none)

/-- MEAN: of N successful polls the first N - 1 write no Sample record and the last writes one reduced record with the sum
divided by N, rounded toward minus infinity; the accumulator begins anew, and a failed poll adds nothing (R96). -/
def Obligations.MeanOfNPolls : Prop :=
  ∀ (e : Entry) (vs : List (Int × List Byte)), e.d.mode = .mean → e.meanSum = 0 → e.meanHeld = 0 →
    ∀ N, N = meanCount e.d.meanCode → (∀ v ∈ vs, rangeLow e.d.signed ≤ v.1 ∧ v.1 ≤ rangeHigh e.d.signed) →
    (N = 2 ∨ N = 4 ∨ N = 8 ∨ N = 16)
    ∧ (vs.length < N →
        e.reports vs = ({ e with meanSum := (vs.map Prod.fst).sum, meanHeld := vs.length }, vs.map fun _ => none))
    ∧ (vs.length = N → ∃ lo hi : Byte,
        e.reports vs = (e, (vs.dropLast.map fun _ => none) ++ [some (true, [lo, hi])])
          ∧ fieldInt e.d.signed (joinBytes lo hi) = ⌊(((vs.map Prod.fst).sum : ℤ) : ℚ) / (N : ℚ)⌋)
    ∧ ∀ n t g o, (e.failPoll n t g o).entry.meanSum = e.meanSum ∧ (e.failPoll n t g o).entry.meanHeld = e.meanHeld

/-- The Band Monitor: the target state by the first row that holds, with return thresholds limited to the 16-bit range
(R101), and the run, with its transition where the count reaches the confirm count (R102). -/
def Obligations.BandClassificationAndRuns : Prop :=
  (∀ (d : EntryDef) (v : Int), ∀ hi, hi = fieldInt d.signed d.highLimit → ∀ lo, lo = fieldInt d.signed d.lowLimit →
      ∀ top, top = max (rangeLow d.signed) (min (rangeHigh d.signed) (hi - d.hysteresis.toNat)) →
      ∀ bot, bot = max (rangeLow d.signed) (min (rangeHigh d.signed) (lo + d.hysteresis.toNat)) →
      (d.pointsTo .normal v = some .high ↔ hi < v) ∧ (d.pointsTo .normal v = some .low ↔ v ≤ hi ∧ v < lo)
      ∧ (d.pointsTo .normal v = none ↔ v ≤ hi ∧ lo ≤ v)
      ∧ (d.pointsTo .high v = some .low ↔ v < lo) ∧ (d.pointsTo .high v = some .normal ↔ lo ≤ v ∧ v ≤ top)
      ∧ (d.pointsTo .high v = none ↔ lo ≤ v ∧ top < v)
      ∧ (d.pointsTo .low v = some .high ↔ hi < v) ∧ (d.pointsTo .low v = some .normal ↔ v ≤ hi ∧ bot ≤ v)
      ∧ (d.pointsTo .low v = none ↔ v ≤ hi ∧ v < bot))
    ∧ (∀ (e : Entry) (v : Int) (b : Band), e.d.bandEnable = true →
        (e.d.pointsTo e.stable v = none → e.classify v = ({ e with run := none }, none))
        ∧ (e.d.pointsTo e.stable v = some b → ∀ k,
            k = (match e.run with | some (dir, c) => if dir = b then c + 1 else 1 | none => 1) →
            (k = e.d.confirm.toNat → e.classify v = ({ e with stable := b, run := none }, some (e.stable, b)))
            ∧ (k ≠ e.d.confirm.toNat → e.classify v = ({ e with run := some (b, k) }, none))))
    ∧ (∀ (e : Entry) (v : Int), e.d.bandEnable = false → e.classify v = (e, none))
    ∧ (∀ (e : Entry) (n : EntryNo) (t : TargetNo) (g : Target) (o : WorkOutcome),
        (e.failPoll n t g o).entry = (if e.d.bandEnable then { e with run := none } else e))
    ∧ ∀ (e : Entry) (b : Band) (vs : List Int), e.d.bandEnable = true → e.run = none →
        (∀ v ∈ vs, e.d.pointsTo e.stable v = some b) → e.d.confirm ≠ 0 →
        (vs.length < e.d.confirm.toNat → vs ≠ [] →
          e.classifies vs = ({ e with run := some (b, vs.length) }, vs.map fun _ => none))
        ∧ (vs.length = e.d.confirm.toNat →
          e.classifies vs
            = ({ e with stable := b, run := none }, (vs.dropLast.map fun _ => none) ++ [some (e.stable, b)]))

/-- The Health Unit's judgement of a completion in each health state. -/
def Obligations.HealthUnitJudgesCompletions : Prop :=
  ∀ (g : Target) (o : WorkOutcome) (probe : Bool),
    (g.health = .active ∨ g.health = .suspect →
      (o = .success → g.judge o probe = ({ g with health := .active, failures := 0 }, .none))
      ∧ (o.counted = true → g.failures + 1 < g.d.threshold.toNat →
          g.judge o probe = ({ g with health := .suspect, failures := g.failures + 1 }, .none))
      ∧ (o.counted = true → g.failures + 1 = g.d.threshold.toNat →
          g.judge o probe = ({ g with health := .quarantined, failures := g.failures + 1
                                      current := g.d.baseBackoff.toNat, remaining := g.d.baseBackoff.toNat }, .quarantined)))
    ∧ (g.health = .probing →
      (o = .success → g.judge o true = ({ g with health := .active, failures := 0, remaining := 0
                                                 current := g.d.baseBackoff.toNat }, .restored))
      ∧ (o.counted = true → g.failures = g.d.threshold.toNat → ∀ b,
          b = (if 2 * g.current ≤ g.d.maxBackoff.toNat then 2 * g.current else g.d.maxBackoff.toNat) →
          g.judge o true = ({ g with health := .quarantined, current := b, remaining := b }, .quarantined)))
    ∧ (o = .arbLost ∨ o = .busStuck → g.judge o probe = (g, .none))
    ∧ (g.health = .held → g.judge o probe = (g, .none))
    ∧ (o.counted = true ↔ o = .addrNack ∨ o = .dataNack ∨ o = .stretchTimeout ∨ o = .checkFail)

/-- A data record's need, and the unit written at the tail where it fits (R117, R118); in hold mode, whatever is pinned, and
behind a pinned head, a record that does not fit is lost whole and counted (R119). -/
def Obligations.UnitsAreWrittenWholeOrLost : Prop :=
  ∀ (q : Queue) (evict pinned : Bool) (stamp : Long) (b : Body), ∀ epoch,
    epoch = stamp.extractLsb' 16 16 →
    ∀ front : List Record, front = (if 0 < q.pendingLoss then [.gap q.pendingLoss epoch]
             else match q.epochWritten with
               | none => [.time epoch]
               | some e => if e = epoch then [] else [.time epoch]) →
    ∀ need, need = b.size + (if 0 < q.pendingLoss then 5 else if q.epochWritten = some epoch then 0 else 3) →
    (front.map Record.size).sum + b.size = need
    ∧ (need ≤ 2048 - q.fill → q.admitOne evict pinned stamp b =
        { queue := { q with records := q.records ++ front ++ [.data b (stamp.extractLsb' 0 16)]
                            epochWritten := some epoch, pendingLoss := 0 }
          written := true, loss := false })
    ∧ (need ≤ 2048 - q.fill → (q.admitOne evict pinned stamp b).queue.fill = q.fill + need)
    ∧ (2048 - q.fill < need → evict = false ∨ pinned = true → q.admitOne evict pinned stamp b =
        { queue := { q with pendingLoss := min 65535 (q.pendingLoss + 1), lossTotal := min 4294967295 (q.lossTotal + 1) }
          written := false, loss := true })
    ∧ (b.size = 4 ↔ (∃ tag, b = .mark tag))

/-- Every data record handed to the queue is held or counted, in either overflow mode. A record that is written stands last
in the stream at its own full time, behind all but the k oldest records, whose loss LOSS_TOTAL counts; one that is lost
leaves the stream as it was. Hold mode, a pinned head and a unit that fits remove nothing, and the counts yet to be read in
Gap records and the pending loss count grow with LOSS_TOTAL until one of them saturates. An eviction removes records from
the head side, behind a head Gap record, and stops as soon as its target is reached, so that it frees at most 35 bytes and
leaves at least 2013; the head is then a Gap record that carries the losses and the epoch, and a Gap record directly behind
it is merged into it (R121 to R125). A group is taken record by record at one stamp reading, each written or lost on its own,
in order (R115). -/
def Obligations.EveryRecordIsHeldOrCounted : Prop :=
  ∀ (q : Queue) (evict pinned : Bool) (stamp : Long), q.law → q.epochLaw →
    (∀ b : Body, b.size ≤ 13 → ∀ a, a = q.admitOne evict pinned stamp b →
      ∀ epoch, epoch = stamp.extractLsb' 16 16 →
      ∀ front : List Record, front = (if 0 < q.pendingLoss then [.gap q.pendingLoss epoch]
               else match q.epochWritten with
                 | none => [.time epoch]
                 | some e => if e = epoch then [] else [.time epoch]) →
      ∀ need, need = (front.map Record.size).sum + b.size →
      ∃ k, k ≤ q.stream.length
        ∧ (a.written = true → a.queue.stream = q.stream.drop k ++ [(some epoch, b, stamp.extractLsb' 0 16)]
            ∧ a.queue.lossTotal = min 4294967295 (q.lossTotal + k))
        ∧ (a.written = false → k = 0 ∧ a.queue.stream = q.stream ∧ a.queue.lossTotal = min 4294967295 (q.lossTotal + 1))
        ∧ (evict = false ∨ pinned = true ∨ need ≤ 2048 - q.fill → k = 0)
        ∧ (a.written = false ∨ 0 < k → a.loss = true)
        ∧ (q.unreadLosses + 2048 ≤ 65535 → q.lossTotal + 2048 ≤ 4294967295 →
            a.queue.unreadLosses + q.lossTotal = q.unreadLosses + a.queue.lossTotal)
        ∧ a.queue.fill ≤ 2048
        ∧ (evict = true → pinned = false → 2048 - q.fill < need → a.written = true ∧ a.loss = true ∧
            ∀ (behind : List Record) (target lost0 : Nat) (epoch0 : Option Half),
              ((∃ e, q.records = .gap lost0 e :: behind ∧ target = need ∧ epoch0 = some e)
                ∨ ((∀ l e rest, q.records ≠ .gap l e :: rest) ∧ behind = q.records ∧ target = need + 5 ∧ lost0 = 0
                    ∧ epoch0 = q.headEpoch)) →
              ∃ (removed merged rest : List Record) (e : Half), behind = removed ++ merged ++ rest
                ∧ target ≤ 2048 - q.fill + (removed.map Record.size).sum
                ∧ (∀ init r, removed = init ++ [r] → 2048 - q.fill + (init.map Record.size).sum < target)
                ∧ (removed.map Record.size).sum ≤ 35 ∧ 2013 ≤ q.fill - (removed.map Record.size).sum
                ∧ ((merged = [] ∧ ∀ l e' rest', rest ≠ .gap l e' :: rest') ∨ ∃ l e', merged = [.gap l e'])
                ∧ k = (removed.filter Record.isData).length
                ∧ epochAfter epoch0 (removed ++ merged) = some e
                ∧ a.queue.headEpoch = epochAfter q.headEpoch (removed ++ merged)
                ∧ a.queue.records = .gap (min 65535 (lost0 + k + gapLosses (removed ++ merged))) e
                      :: (rest ++ front ++ [.data b (stamp.extractLsb' 0 16)])))
    ∧ ∀ bs : List Body, (∀ b ∈ bs, b.size ≤ 13) → ∀ r, r = q.admitGroup evict pinned stamp bs →
        (∀ next : Queue → Body → Queue, next = (fun u b => (u.admitOne evict pinned stamp b).queue) →
          r.1 = bs.foldl next q
          ∧ (r.2 = true ↔ ∃ before b behind, bs = before ++ b :: behind
              ∧ ((before.foldl next q).admitOne evict pinned stamp b).loss = true))
        ∧ ∃ (written : List Body) (k : Nat), written.Sublist bs
            ∧ r.1.stream = (q.stream ++ written.map fun b =>
                (some (stamp.extractLsb' 16 16), b, stamp.extractLsb' 0 16)).drop k
            ∧ r.1.lossTotal = min 4294967295 (q.lossTotal + k + (bs.length - written.length))

end
end

