-- ==== Sys2Proof/Laws/State.lean ====
section
/-! SUPPORT. What each update of State leaves unchanged, field by field, and what the accessors read after it. -/

namespace Sys2Proof.Machine

/-! ### setEntry -/

@[simp] theorem State.setEntry_elapsed (n : EntryNo) (e : Entry) (s : State) : (State.setEntry n e s).elapsed = s.elapsed := rfl
@[simp] theorem State.setEntry_inReset (n : EntryNo) (e : Entry) (s : State) : (State.setEntry n e s).inReset = s.inReset := rfl
@[simp] theorem State.setEntry_host (n : EntryNo) (e : Entry) (s : State) : (State.setEntry n e s).host = s.host := rfl
@[simp] theorem State.setEntry_ctrl (n : EntryNo) (e : Entry) (s : State) : (State.setEntry n e s).ctrl = s.ctrl := rfl
@[simp] theorem State.setEntry_watermark (n : EntryNo) (e : Entry) (s : State) : (State.setEntry n e s).watermark = s.watermark := rfl
@[simp] theorem State.setEntry_cu (n : EntryNo) (e : Entry) (s : State) : (State.setEntry n e s).cu = s.cu := rfl
@[simp] theorem State.setEntry_sticky (n : EntryNo) (e : Entry) (s : State) : (State.setEntry n e s).sticky = s.sticky := rfl
@[simp] theorem State.setEntry_intEnable (n : EntryNo) (e : Entry) (s : State) : (State.setEntry n e s).intEnable = s.intEnable := rfl
@[simp] theorem State.setEntry_bandPending (n : EntryNo) (e : Entry) (s : State) : (State.setEntry n e s).bandPending = s.bandPending := rfl
@[simp] theorem State.setEntry_limit (n : EntryNo) (e : Entry) (s : State) : (State.setEntry n e s).limit = s.limit := rfl
@[simp] theorem State.setEntry_collector (n : EntryNo) (e : Entry) (s : State) : (State.setEntry n e s).collector = s.collector := rfl
@[simp] theorem State.setEntry_targets (n : EntryNo) (e : Entry) (s : State) : (State.setEntry n e s).targets = s.targets := rfl
@[simp] theorem State.setEntry_segA (n : EntryNo) (e : Entry) (s : State) : (State.setEntry n e s).segA = s.segA := rfl
@[simp] theorem State.setEntry_segB (n : EntryNo) (e : Entry) (s : State) : (State.setEntry n e s).segB = s.segB := rfl
@[simp] theorem State.setEntry_queue (n : EntryNo) (e : Entry) (s : State) : (State.setEntry n e s).queue = s.queue := rfl
@[simp] theorem State.setEntry_port (n : EntryNo) (e : Entry) (s : State) : (State.setEntry n e s).port = s.port := rfl
@[simp] theorem State.setEntry_mem (n : EntryNo) (e : Entry) (s : State) : (State.setEntry n e s).mem = s.mem := rfl
@[simp] theorem State.setEntry_pending (n : EntryNo) (e : Entry) (s : State) : (State.setEntry n e s).pending = s.pending := rfl
@[simp] theorem State.setEntry_freeIndex (n : EntryNo) (e : Entry) (s : State) : (State.setEntry n e s).freeIndex = s.freeIndex := rfl

/-! ### mapEntries -/

@[simp] theorem State.mapEntries_elapsed (f : EntryNo → Entry → Entry) (s : State) : (State.mapEntries f s).elapsed = s.elapsed := by simp only [State.mapEntries]
@[simp] theorem State.mapEntries_inReset (f : EntryNo → Entry → Entry) (s : State) : (State.mapEntries f s).inReset = s.inReset := by simp only [State.mapEntries]
@[simp] theorem State.mapEntries_host (f : EntryNo → Entry → Entry) (s : State) : (State.mapEntries f s).host = s.host := by simp only [State.mapEntries]
@[simp] theorem State.mapEntries_ctrl (f : EntryNo → Entry → Entry) (s : State) : (State.mapEntries f s).ctrl = s.ctrl := by simp only [State.mapEntries]
@[simp] theorem State.mapEntries_watermark (f : EntryNo → Entry → Entry) (s : State) : (State.mapEntries f s).watermark = s.watermark := by simp only [State.mapEntries]
@[simp] theorem State.mapEntries_cu (f : EntryNo → Entry → Entry) (s : State) : (State.mapEntries f s).cu = s.cu := by simp only [State.mapEntries]
@[simp] theorem State.mapEntries_sticky (f : EntryNo → Entry → Entry) (s : State) : (State.mapEntries f s).sticky = s.sticky := by simp only [State.mapEntries]
@[simp] theorem State.mapEntries_intEnable (f : EntryNo → Entry → Entry) (s : State) : (State.mapEntries f s).intEnable = s.intEnable := by simp only [State.mapEntries]
@[simp] theorem State.mapEntries_bandPending (f : EntryNo → Entry → Entry) (s : State) : (State.mapEntries f s).bandPending = s.bandPending := by simp only [State.mapEntries]
@[simp] theorem State.mapEntries_limit (f : EntryNo → Entry → Entry) (s : State) : (State.mapEntries f s).limit = s.limit := by simp only [State.mapEntries]
@[simp] theorem State.mapEntries_collector (f : EntryNo → Entry → Entry) (s : State) : (State.mapEntries f s).collector = s.collector := by simp only [State.mapEntries]
@[simp] theorem State.mapEntries_targets (f : EntryNo → Entry → Entry) (s : State) : (State.mapEntries f s).targets = s.targets := by simp only [State.mapEntries]
@[simp] theorem State.mapEntries_segA (f : EntryNo → Entry → Entry) (s : State) : (State.mapEntries f s).segA = s.segA := by simp only [State.mapEntries]
@[simp] theorem State.mapEntries_segB (f : EntryNo → Entry → Entry) (s : State) : (State.mapEntries f s).segB = s.segB := by simp only [State.mapEntries]
@[simp] theorem State.mapEntries_queue (f : EntryNo → Entry → Entry) (s : State) : (State.mapEntries f s).queue = s.queue := by simp only [State.mapEntries]
@[simp] theorem State.mapEntries_port (f : EntryNo → Entry → Entry) (s : State) : (State.mapEntries f s).port = s.port := by simp only [State.mapEntries]
@[simp] theorem State.mapEntries_mem (f : EntryNo → Entry → Entry) (s : State) : (State.mapEntries f s).mem = s.mem := by simp only [State.mapEntries]
@[simp] theorem State.mapEntries_pending (f : EntryNo → Entry → Entry) (s : State) : (State.mapEntries f s).pending = s.pending := by simp only [State.mapEntries]
@[simp] theorem State.mapEntries_freeIndex (f : EntryNo → Entry → Entry) (s : State) : (State.mapEntries f s).freeIndex = s.freeIndex := by simp only [State.mapEntries]

/-! ### setTarget -/

@[simp] theorem State.setTarget_elapsed (t : TargetNo) (g : Target) (s : State) : (State.setTarget t g s).elapsed = s.elapsed := rfl
@[simp] theorem State.setTarget_inReset (t : TargetNo) (g : Target) (s : State) : (State.setTarget t g s).inReset = s.inReset := rfl
@[simp] theorem State.setTarget_host (t : TargetNo) (g : Target) (s : State) : (State.setTarget t g s).host = s.host := rfl
@[simp] theorem State.setTarget_ctrl (t : TargetNo) (g : Target) (s : State) : (State.setTarget t g s).ctrl = s.ctrl := rfl
@[simp] theorem State.setTarget_watermark (t : TargetNo) (g : Target) (s : State) : (State.setTarget t g s).watermark = s.watermark := rfl
@[simp] theorem State.setTarget_cu (t : TargetNo) (g : Target) (s : State) : (State.setTarget t g s).cu = s.cu := rfl
@[simp] theorem State.setTarget_sticky (t : TargetNo) (g : Target) (s : State) : (State.setTarget t g s).sticky = s.sticky := rfl
@[simp] theorem State.setTarget_intEnable (t : TargetNo) (g : Target) (s : State) : (State.setTarget t g s).intEnable = s.intEnable := rfl
@[simp] theorem State.setTarget_bandPending (t : TargetNo) (g : Target) (s : State) : (State.setTarget t g s).bandPending = s.bandPending := rfl
@[simp] theorem State.setTarget_limit (t : TargetNo) (g : Target) (s : State) : (State.setTarget t g s).limit = s.limit := rfl
@[simp] theorem State.setTarget_collector (t : TargetNo) (g : Target) (s : State) : (State.setTarget t g s).collector = s.collector := rfl
@[simp] theorem State.setTarget_entries (t : TargetNo) (g : Target) (s : State) : (State.setTarget t g s).entries = s.entries := rfl
@[simp] theorem State.setTarget_segA (t : TargetNo) (g : Target) (s : State) : (State.setTarget t g s).segA = s.segA := rfl
@[simp] theorem State.setTarget_segB (t : TargetNo) (g : Target) (s : State) : (State.setTarget t g s).segB = s.segB := rfl
@[simp] theorem State.setTarget_queue (t : TargetNo) (g : Target) (s : State) : (State.setTarget t g s).queue = s.queue := rfl
@[simp] theorem State.setTarget_port (t : TargetNo) (g : Target) (s : State) : (State.setTarget t g s).port = s.port := rfl
@[simp] theorem State.setTarget_mem (t : TargetNo) (g : Target) (s : State) : (State.setTarget t g s).mem = s.mem := rfl
@[simp] theorem State.setTarget_pending (t : TargetNo) (g : Target) (s : State) : (State.setTarget t g s).pending = s.pending := rfl
@[simp] theorem State.setTarget_freeIndex (t : TargetNo) (g : Target) (s : State) : (State.setTarget t g s).freeIndex = s.freeIndex := rfl

/-! ### mapTargets -/

@[simp] theorem State.mapTargets_elapsed (f : Target → Target) (s : State) : (State.mapTargets f s).elapsed = s.elapsed := by simp only [State.mapTargets]
@[simp] theorem State.mapTargets_inReset (f : Target → Target) (s : State) : (State.mapTargets f s).inReset = s.inReset := by simp only [State.mapTargets]
@[simp] theorem State.mapTargets_host (f : Target → Target) (s : State) : (State.mapTargets f s).host = s.host := by simp only [State.mapTargets]
@[simp] theorem State.mapTargets_ctrl (f : Target → Target) (s : State) : (State.mapTargets f s).ctrl = s.ctrl := by simp only [State.mapTargets]
@[simp] theorem State.mapTargets_watermark (f : Target → Target) (s : State) : (State.mapTargets f s).watermark = s.watermark := by simp only [State.mapTargets]
@[simp] theorem State.mapTargets_cu (f : Target → Target) (s : State) : (State.mapTargets f s).cu = s.cu := by simp only [State.mapTargets]
@[simp] theorem State.mapTargets_sticky (f : Target → Target) (s : State) : (State.mapTargets f s).sticky = s.sticky := by simp only [State.mapTargets]
@[simp] theorem State.mapTargets_intEnable (f : Target → Target) (s : State) : (State.mapTargets f s).intEnable = s.intEnable := by simp only [State.mapTargets]
@[simp] theorem State.mapTargets_bandPending (f : Target → Target) (s : State) : (State.mapTargets f s).bandPending = s.bandPending := by simp only [State.mapTargets]
@[simp] theorem State.mapTargets_limit (f : Target → Target) (s : State) : (State.mapTargets f s).limit = s.limit := by simp only [State.mapTargets]
@[simp] theorem State.mapTargets_collector (f : Target → Target) (s : State) : (State.mapTargets f s).collector = s.collector := by simp only [State.mapTargets]
@[simp] theorem State.mapTargets_entries (f : Target → Target) (s : State) : (State.mapTargets f s).entries = s.entries := by simp only [State.mapTargets]
@[simp] theorem State.mapTargets_segA (f : Target → Target) (s : State) : (State.mapTargets f s).segA = s.segA := by simp only [State.mapTargets]
@[simp] theorem State.mapTargets_segB (f : Target → Target) (s : State) : (State.mapTargets f s).segB = s.segB := by simp only [State.mapTargets]
@[simp] theorem State.mapTargets_queue (f : Target → Target) (s : State) : (State.mapTargets f s).queue = s.queue := by simp only [State.mapTargets]
@[simp] theorem State.mapTargets_port (f : Target → Target) (s : State) : (State.mapTargets f s).port = s.port := by simp only [State.mapTargets]
@[simp] theorem State.mapTargets_mem (f : Target → Target) (s : State) : (State.mapTargets f s).mem = s.mem := by simp only [State.mapTargets]
@[simp] theorem State.mapTargets_pending (f : Target → Target) (s : State) : (State.mapTargets f s).pending = s.pending := by simp only [State.mapTargets]
@[simp] theorem State.mapTargets_freeIndex (f : Target → Target) (s : State) : (State.mapTargets f s).freeIndex = s.freeIndex := by simp only [State.mapTargets]

/-! ### setSeg -/

@[simp] theorem State.setSeg_elapsed (x : Segment) (g : Seg) (s : State) : (State.setSeg x g s).elapsed = s.elapsed := by cases x <;> rfl
@[simp] theorem State.setSeg_inReset (x : Segment) (g : Seg) (s : State) : (State.setSeg x g s).inReset = s.inReset := by cases x <;> rfl
@[simp] theorem State.setSeg_host (x : Segment) (g : Seg) (s : State) : (State.setSeg x g s).host = s.host := by cases x <;> rfl
@[simp] theorem State.setSeg_ctrl (x : Segment) (g : Seg) (s : State) : (State.setSeg x g s).ctrl = s.ctrl := by cases x <;> rfl
@[simp] theorem State.setSeg_watermark (x : Segment) (g : Seg) (s : State) : (State.setSeg x g s).watermark = s.watermark := by cases x <;> rfl
@[simp] theorem State.setSeg_cu (x : Segment) (g : Seg) (s : State) : (State.setSeg x g s).cu = s.cu := by cases x <;> rfl
@[simp] theorem State.setSeg_sticky (x : Segment) (g : Seg) (s : State) : (State.setSeg x g s).sticky = s.sticky := by cases x <;> rfl
@[simp] theorem State.setSeg_intEnable (x : Segment) (g : Seg) (s : State) : (State.setSeg x g s).intEnable = s.intEnable := by cases x <;> rfl
@[simp] theorem State.setSeg_bandPending (x : Segment) (g : Seg) (s : State) : (State.setSeg x g s).bandPending = s.bandPending := by cases x <;> rfl
@[simp] theorem State.setSeg_limit (x : Segment) (g : Seg) (s : State) : (State.setSeg x g s).limit = s.limit := by cases x <;> rfl
@[simp] theorem State.setSeg_collector (x : Segment) (g : Seg) (s : State) : (State.setSeg x g s).collector = s.collector := by cases x <;> rfl
@[simp] theorem State.setSeg_entries (x : Segment) (g : Seg) (s : State) : (State.setSeg x g s).entries = s.entries := by cases x <;> rfl
@[simp] theorem State.setSeg_targets (x : Segment) (g : Seg) (s : State) : (State.setSeg x g s).targets = s.targets := by cases x <;> rfl
@[simp] theorem State.setSeg_queue (x : Segment) (g : Seg) (s : State) : (State.setSeg x g s).queue = s.queue := by cases x <;> rfl
@[simp] theorem State.setSeg_port (x : Segment) (g : Seg) (s : State) : (State.setSeg x g s).port = s.port := by cases x <;> rfl
@[simp] theorem State.setSeg_mem (x : Segment) (g : Seg) (s : State) : (State.setSeg x g s).mem = s.mem := by cases x <;> rfl
@[simp] theorem State.setSeg_pending (x : Segment) (g : Seg) (s : State) : (State.setSeg x g s).pending = s.pending := by cases x <;> rfl
@[simp] theorem State.setSeg_freeIndex (x : Segment) (g : Seg) (s : State) : (State.setSeg x g s).freeIndex = s.freeIndex := by cases x <;> rfl

/-! ### modSeg -/

@[simp] theorem State.modSeg_elapsed (x : Segment) (f : Seg → Seg) (s : State) : (State.modSeg x f s).elapsed = s.elapsed := by cases x <;> rfl
@[simp] theorem State.modSeg_inReset (x : Segment) (f : Seg → Seg) (s : State) : (State.modSeg x f s).inReset = s.inReset := by cases x <;> rfl
@[simp] theorem State.modSeg_host (x : Segment) (f : Seg → Seg) (s : State) : (State.modSeg x f s).host = s.host := by cases x <;> rfl
@[simp] theorem State.modSeg_ctrl (x : Segment) (f : Seg → Seg) (s : State) : (State.modSeg x f s).ctrl = s.ctrl := by cases x <;> rfl
@[simp] theorem State.modSeg_watermark (x : Segment) (f : Seg → Seg) (s : State) : (State.modSeg x f s).watermark = s.watermark := by cases x <;> rfl
@[simp] theorem State.modSeg_cu (x : Segment) (f : Seg → Seg) (s : State) : (State.modSeg x f s).cu = s.cu := by cases x <;> rfl
@[simp] theorem State.modSeg_sticky (x : Segment) (f : Seg → Seg) (s : State) : (State.modSeg x f s).sticky = s.sticky := by cases x <;> rfl
@[simp] theorem State.modSeg_intEnable (x : Segment) (f : Seg → Seg) (s : State) : (State.modSeg x f s).intEnable = s.intEnable := by cases x <;> rfl
@[simp] theorem State.modSeg_bandPending (x : Segment) (f : Seg → Seg) (s : State) : (State.modSeg x f s).bandPending = s.bandPending := by cases x <;> rfl
@[simp] theorem State.modSeg_limit (x : Segment) (f : Seg → Seg) (s : State) : (State.modSeg x f s).limit = s.limit := by cases x <;> rfl
@[simp] theorem State.modSeg_collector (x : Segment) (f : Seg → Seg) (s : State) : (State.modSeg x f s).collector = s.collector := by cases x <;> rfl
@[simp] theorem State.modSeg_entries (x : Segment) (f : Seg → Seg) (s : State) : (State.modSeg x f s).entries = s.entries := by cases x <;> rfl
@[simp] theorem State.modSeg_targets (x : Segment) (f : Seg → Seg) (s : State) : (State.modSeg x f s).targets = s.targets := by cases x <;> rfl
@[simp] theorem State.modSeg_queue (x : Segment) (f : Seg → Seg) (s : State) : (State.modSeg x f s).queue = s.queue := by cases x <;> rfl
@[simp] theorem State.modSeg_port (x : Segment) (f : Seg → Seg) (s : State) : (State.modSeg x f s).port = s.port := by cases x <;> rfl
@[simp] theorem State.modSeg_mem (x : Segment) (f : Seg → Seg) (s : State) : (State.modSeg x f s).mem = s.mem := by cases x <;> rfl
@[simp] theorem State.modSeg_pending (x : Segment) (f : Seg → Seg) (s : State) : (State.modSeg x f s).pending = s.pending := by cases x <;> rfl
@[simp] theorem State.modSeg_freeIndex (x : Segment) (f : Seg → Seg) (s : State) : (State.modSeg x f s).freeIndex = s.freeIndex := by cases x <;> rfl

/-! ### mapSegs -/

@[simp] theorem State.mapSegs_elapsed (f : Seg → Seg) (s : State) : (State.mapSegs f s).elapsed = s.elapsed := rfl
@[simp] theorem State.mapSegs_inReset (f : Seg → Seg) (s : State) : (State.mapSegs f s).inReset = s.inReset := rfl
@[simp] theorem State.mapSegs_host (f : Seg → Seg) (s : State) : (State.mapSegs f s).host = s.host := rfl
@[simp] theorem State.mapSegs_ctrl (f : Seg → Seg) (s : State) : (State.mapSegs f s).ctrl = s.ctrl := rfl
@[simp] theorem State.mapSegs_watermark (f : Seg → Seg) (s : State) : (State.mapSegs f s).watermark = s.watermark := rfl
@[simp] theorem State.mapSegs_cu (f : Seg → Seg) (s : State) : (State.mapSegs f s).cu = s.cu := rfl
@[simp] theorem State.mapSegs_sticky (f : Seg → Seg) (s : State) : (State.mapSegs f s).sticky = s.sticky := rfl
@[simp] theorem State.mapSegs_intEnable (f : Seg → Seg) (s : State) : (State.mapSegs f s).intEnable = s.intEnable := rfl
@[simp] theorem State.mapSegs_bandPending (f : Seg → Seg) (s : State) : (State.mapSegs f s).bandPending = s.bandPending := rfl
@[simp] theorem State.mapSegs_limit (f : Seg → Seg) (s : State) : (State.mapSegs f s).limit = s.limit := rfl
@[simp] theorem State.mapSegs_collector (f : Seg → Seg) (s : State) : (State.mapSegs f s).collector = s.collector := rfl
@[simp] theorem State.mapSegs_entries (f : Seg → Seg) (s : State) : (State.mapSegs f s).entries = s.entries := rfl
@[simp] theorem State.mapSegs_targets (f : Seg → Seg) (s : State) : (State.mapSegs f s).targets = s.targets := rfl
@[simp] theorem State.mapSegs_queue (f : Seg → Seg) (s : State) : (State.mapSegs f s).queue = s.queue := rfl
@[simp] theorem State.mapSegs_port (f : Seg → Seg) (s : State) : (State.mapSegs f s).port = s.port := rfl
@[simp] theorem State.mapSegs_mem (f : Seg → Seg) (s : State) : (State.mapSegs f s).mem = s.mem := rfl
@[simp] theorem State.mapSegs_pending (f : Seg → Seg) (s : State) : (State.mapSegs f s).pending = s.pending := rfl
@[simp] theorem State.mapSegs_freeIndex (f : Seg → Seg) (s : State) : (State.mapSegs f s).freeIndex = s.freeIndex := rfl

/-! ### complete -/

@[simp] theorem complete_elapsed (r d : Byte) (s : State) : (complete r d s).elapsed = s.elapsed := rfl
@[simp] theorem complete_inReset (r d : Byte) (s : State) : (complete r d s).inReset = s.inReset := rfl
@[simp] theorem complete_host (r d : Byte) (s : State) : (complete r d s).host = s.host := rfl
@[simp] theorem complete_ctrl (r d : Byte) (s : State) : (complete r d s).ctrl = s.ctrl := rfl
@[simp] theorem complete_watermark (r d : Byte) (s : State) : (complete r d s).watermark = s.watermark := rfl
@[simp] theorem complete_intEnable (r d : Byte) (s : State) : (complete r d s).intEnable = s.intEnable := rfl
@[simp] theorem complete_bandPending (r d : Byte) (s : State) : (complete r d s).bandPending = s.bandPending := rfl
@[simp] theorem complete_limit (r d : Byte) (s : State) : (complete r d s).limit = s.limit := rfl
@[simp] theorem complete_collector (r d : Byte) (s : State) : (complete r d s).collector = s.collector := rfl
@[simp] theorem complete_entries (r d : Byte) (s : State) : (complete r d s).entries = s.entries := rfl
@[simp] theorem complete_targets (r d : Byte) (s : State) : (complete r d s).targets = s.targets := rfl
@[simp] theorem complete_segA (r d : Byte) (s : State) : (complete r d s).segA = s.segA := rfl
@[simp] theorem complete_segB (r d : Byte) (s : State) : (complete r d s).segB = s.segB := rfl
@[simp] theorem complete_queue (r d : Byte) (s : State) : (complete r d s).queue = s.queue := rfl
@[simp] theorem complete_port (r d : Byte) (s : State) : (complete r d s).port = s.port := rfl
@[simp] theorem complete_mem (r d : Byte) (s : State) : (complete r d s).mem = s.mem := rfl
@[simp] theorem complete_pending (r d : Byte) (s : State) : (complete r d s).pending = s.pending := rfl
@[simp] theorem complete_freeIndex (r d : Byte) (s : State) : (complete r d s).freeIndex = s.freeIndex := rfl

/-! ### completeOk -/

@[simp] theorem completeOk_elapsed (s : State) : (completeOk s).elapsed = s.elapsed := rfl
@[simp] theorem completeOk_inReset (s : State) : (completeOk s).inReset = s.inReset := rfl
@[simp] theorem completeOk_host (s : State) : (completeOk s).host = s.host := rfl
@[simp] theorem completeOk_ctrl (s : State) : (completeOk s).ctrl = s.ctrl := rfl
@[simp] theorem completeOk_watermark (s : State) : (completeOk s).watermark = s.watermark := rfl
@[simp] theorem completeOk_intEnable (s : State) : (completeOk s).intEnable = s.intEnable := rfl
@[simp] theorem completeOk_bandPending (s : State) : (completeOk s).bandPending = s.bandPending := rfl
@[simp] theorem completeOk_limit (s : State) : (completeOk s).limit = s.limit := rfl
@[simp] theorem completeOk_collector (s : State) : (completeOk s).collector = s.collector := rfl
@[simp] theorem completeOk_entries (s : State) : (completeOk s).entries = s.entries := rfl
@[simp] theorem completeOk_targets (s : State) : (completeOk s).targets = s.targets := rfl
@[simp] theorem completeOk_segA (s : State) : (completeOk s).segA = s.segA := rfl
@[simp] theorem completeOk_segB (s : State) : (completeOk s).segB = s.segB := rfl
@[simp] theorem completeOk_queue (s : State) : (completeOk s).queue = s.queue := rfl
@[simp] theorem completeOk_port (s : State) : (completeOk s).port = s.port := rfl
@[simp] theorem completeOk_mem (s : State) : (completeOk s).mem = s.mem := rfl
@[simp] theorem completeOk_pending (s : State) : (completeOk s).pending = s.pending := rfl
@[simp] theorem completeOk_freeIndex (s : State) : (completeOk s).freeIndex = s.freeIndex := rfl

/-! ### takeCode -/

@[simp] theorem takeCode_elapsed (c : Byte) (s : State) : (takeCode c s).elapsed = s.elapsed := rfl
@[simp] theorem takeCode_inReset (c : Byte) (s : State) : (takeCode c s).inReset = s.inReset := rfl
@[simp] theorem takeCode_host (c : Byte) (s : State) : (takeCode c s).host = s.host := rfl
@[simp] theorem takeCode_ctrl (c : Byte) (s : State) : (takeCode c s).ctrl = s.ctrl := rfl
@[simp] theorem takeCode_watermark (c : Byte) (s : State) : (takeCode c s).watermark = s.watermark := rfl
@[simp] theorem takeCode_sticky (c : Byte) (s : State) : (takeCode c s).sticky = s.sticky := rfl
@[simp] theorem takeCode_intEnable (c : Byte) (s : State) : (takeCode c s).intEnable = s.intEnable := rfl
@[simp] theorem takeCode_bandPending (c : Byte) (s : State) : (takeCode c s).bandPending = s.bandPending := rfl
@[simp] theorem takeCode_limit (c : Byte) (s : State) : (takeCode c s).limit = s.limit := rfl
@[simp] theorem takeCode_collector (c : Byte) (s : State) : (takeCode c s).collector = s.collector := rfl
@[simp] theorem takeCode_entries (c : Byte) (s : State) : (takeCode c s).entries = s.entries := rfl
@[simp] theorem takeCode_targets (c : Byte) (s : State) : (takeCode c s).targets = s.targets := rfl
@[simp] theorem takeCode_segA (c : Byte) (s : State) : (takeCode c s).segA = s.segA := rfl
@[simp] theorem takeCode_segB (c : Byte) (s : State) : (takeCode c s).segB = s.segB := rfl
@[simp] theorem takeCode_queue (c : Byte) (s : State) : (takeCode c s).queue = s.queue := rfl
@[simp] theorem takeCode_port (c : Byte) (s : State) : (takeCode c s).port = s.port := rfl
@[simp] theorem takeCode_mem (c : Byte) (s : State) : (takeCode c s).mem = s.mem := rfl
@[simp] theorem takeCode_pending (c : Byte) (s : State) : (takeCode c s).pending = s.pending := rfl
@[simp] theorem takeCode_freeIndex (c : Byte) (s : State) : (takeCode c s).freeIndex = s.freeIndex := rfl

/-! ### beginWait -/

@[simp] theorem beginWait_elapsed (w : Wait) (s : State) : (beginWait w s).elapsed = s.elapsed := rfl
@[simp] theorem beginWait_inReset (w : Wait) (s : State) : (beginWait w s).inReset = s.inReset := rfl
@[simp] theorem beginWait_host (w : Wait) (s : State) : (beginWait w s).host = s.host := rfl
@[simp] theorem beginWait_ctrl (w : Wait) (s : State) : (beginWait w s).ctrl = s.ctrl := rfl
@[simp] theorem beginWait_watermark (w : Wait) (s : State) : (beginWait w s).watermark = s.watermark := rfl
@[simp] theorem beginWait_sticky (w : Wait) (s : State) : (beginWait w s).sticky = s.sticky := rfl
@[simp] theorem beginWait_intEnable (w : Wait) (s : State) : (beginWait w s).intEnable = s.intEnable := rfl
@[simp] theorem beginWait_bandPending (w : Wait) (s : State) : (beginWait w s).bandPending = s.bandPending := rfl
@[simp] theorem beginWait_limit (w : Wait) (s : State) : (beginWait w s).limit = s.limit := rfl
@[simp] theorem beginWait_collector (w : Wait) (s : State) : (beginWait w s).collector = s.collector := rfl
@[simp] theorem beginWait_entries (w : Wait) (s : State) : (beginWait w s).entries = s.entries := rfl
@[simp] theorem beginWait_targets (w : Wait) (s : State) : (beginWait w s).targets = s.targets := rfl
@[simp] theorem beginWait_segA (w : Wait) (s : State) : (beginWait w s).segA = s.segA := rfl
@[simp] theorem beginWait_segB (w : Wait) (s : State) : (beginWait w s).segB = s.segB := rfl
@[simp] theorem beginWait_queue (w : Wait) (s : State) : (beginWait w s).queue = s.queue := rfl
@[simp] theorem beginWait_port (w : Wait) (s : State) : (beginWait w s).port = s.port := rfl
@[simp] theorem beginWait_mem (w : Wait) (s : State) : (beginWait w s).mem = s.mem := rfl
@[simp] theorem beginWait_pending (w : Wait) (s : State) : (beginWait w s).pending = s.pending := rfl
@[simp] theorem beginWait_freeIndex (w : Wait) (s : State) : (beginWait w s).freeIndex = s.freeIndex := rfl

/-! ### notTaken -/

@[simp] theorem notTaken_elapsed (s : State) : (notTaken s).elapsed = s.elapsed := rfl
@[simp] theorem notTaken_inReset (s : State) : (notTaken s).inReset = s.inReset := rfl
@[simp] theorem notTaken_host (s : State) : (notTaken s).host = s.host := rfl
@[simp] theorem notTaken_ctrl (s : State) : (notTaken s).ctrl = s.ctrl := rfl
@[simp] theorem notTaken_watermark (s : State) : (notTaken s).watermark = s.watermark := rfl
@[simp] theorem notTaken_cu (s : State) : (notTaken s).cu = s.cu := rfl
@[simp] theorem notTaken_intEnable (s : State) : (notTaken s).intEnable = s.intEnable := rfl
@[simp] theorem notTaken_bandPending (s : State) : (notTaken s).bandPending = s.bandPending := rfl
@[simp] theorem notTaken_limit (s : State) : (notTaken s).limit = s.limit := rfl
@[simp] theorem notTaken_collector (s : State) : (notTaken s).collector = s.collector := rfl
@[simp] theorem notTaken_entries (s : State) : (notTaken s).entries = s.entries := rfl
@[simp] theorem notTaken_targets (s : State) : (notTaken s).targets = s.targets := rfl
@[simp] theorem notTaken_segA (s : State) : (notTaken s).segA = s.segA := rfl
@[simp] theorem notTaken_segB (s : State) : (notTaken s).segB = s.segB := rfl
@[simp] theorem notTaken_queue (s : State) : (notTaken s).queue = s.queue := rfl
@[simp] theorem notTaken_port (s : State) : (notTaken s).port = s.port := rfl
@[simp] theorem notTaken_mem (s : State) : (notTaken s).mem = s.mem := rfl
@[simp] theorem notTaken_pending (s : State) : (notTaken s).pending = s.pending := rfl
@[simp] theorem notTaken_freeIndex (s : State) : (notTaken s).freeIndex = s.freeIndex := rfl

/-! ### advance -/

@[simp] theorem advance_elapsed (s : State) : (advance s).elapsed = s.elapsed := rfl
@[simp] theorem advance_inReset (s : State) : (advance s).inReset = s.inReset := rfl
@[simp] theorem advance_ctrl (s : State) : (advance s).ctrl = s.ctrl := rfl
@[simp] theorem advance_watermark (s : State) : (advance s).watermark = s.watermark := rfl
@[simp] theorem advance_cu (s : State) : (advance s).cu = s.cu := rfl
@[simp] theorem advance_sticky (s : State) : (advance s).sticky = s.sticky := rfl
@[simp] theorem advance_intEnable (s : State) : (advance s).intEnable = s.intEnable := rfl
@[simp] theorem advance_bandPending (s : State) : (advance s).bandPending = s.bandPending := rfl
@[simp] theorem advance_limit (s : State) : (advance s).limit = s.limit := rfl
@[simp] theorem advance_collector (s : State) : (advance s).collector = s.collector := rfl
@[simp] theorem advance_entries (s : State) : (advance s).entries = s.entries := rfl
@[simp] theorem advance_targets (s : State) : (advance s).targets = s.targets := rfl
@[simp] theorem advance_segA (s : State) : (advance s).segA = s.segA := rfl
@[simp] theorem advance_segB (s : State) : (advance s).segB = s.segB := rfl
@[simp] theorem advance_queue (s : State) : (advance s).queue = s.queue := rfl
@[simp] theorem advance_port (s : State) : (advance s).port = s.port := rfl
@[simp] theorem advance_mem (s : State) : (advance s).mem = s.mem := rfl
@[simp] theorem advance_pending (s : State) : (advance s).pending = s.pending := rfl
@[simp] theorem advance_freeIndex (s : State) : (advance s).freeIndex = s.freeIndex := rfl

/-! ### setHealthFlag -/

@[simp] theorem setHealthFlag_elapsed (s : State) : (setHealthFlag s).elapsed = s.elapsed := rfl
@[simp] theorem setHealthFlag_inReset (s : State) : (setHealthFlag s).inReset = s.inReset := rfl
@[simp] theorem setHealthFlag_host (s : State) : (setHealthFlag s).host = s.host := rfl
@[simp] theorem setHealthFlag_ctrl (s : State) : (setHealthFlag s).ctrl = s.ctrl := rfl
@[simp] theorem setHealthFlag_watermark (s : State) : (setHealthFlag s).watermark = s.watermark := rfl
@[simp] theorem setHealthFlag_cu (s : State) : (setHealthFlag s).cu = s.cu := rfl
@[simp] theorem setHealthFlag_intEnable (s : State) : (setHealthFlag s).intEnable = s.intEnable := rfl
@[simp] theorem setHealthFlag_bandPending (s : State) : (setHealthFlag s).bandPending = s.bandPending := rfl
@[simp] theorem setHealthFlag_limit (s : State) : (setHealthFlag s).limit = s.limit := rfl
@[simp] theorem setHealthFlag_collector (s : State) : (setHealthFlag s).collector = s.collector := rfl
@[simp] theorem setHealthFlag_entries (s : State) : (setHealthFlag s).entries = s.entries := rfl
@[simp] theorem setHealthFlag_targets (s : State) : (setHealthFlag s).targets = s.targets := rfl
@[simp] theorem setHealthFlag_segA (s : State) : (setHealthFlag s).segA = s.segA := rfl
@[simp] theorem setHealthFlag_segB (s : State) : (setHealthFlag s).segB = s.segB := rfl
@[simp] theorem setHealthFlag_queue (s : State) : (setHealthFlag s).queue = s.queue := rfl
@[simp] theorem setHealthFlag_port (s : State) : (setHealthFlag s).port = s.port := rfl
@[simp] theorem setHealthFlag_mem (s : State) : (setHealthFlag s).mem = s.mem := rfl
@[simp] theorem setHealthFlag_pending (s : State) : (setHealthFlag s).pending = s.pending := rfl
@[simp] theorem setHealthFlag_freeIndex (s : State) : (setHealthFlag s).freeIndex = s.freeIndex := rfl

/-! ### setSegerr -/

@[simp] theorem setSegerr_elapsed (s : State) : (setSegerr s).elapsed = s.elapsed := rfl
@[simp] theorem setSegerr_inReset (s : State) : (setSegerr s).inReset = s.inReset := rfl
@[simp] theorem setSegerr_host (s : State) : (setSegerr s).host = s.host := rfl
@[simp] theorem setSegerr_ctrl (s : State) : (setSegerr s).ctrl = s.ctrl := rfl
@[simp] theorem setSegerr_watermark (s : State) : (setSegerr s).watermark = s.watermark := rfl
@[simp] theorem setSegerr_cu (s : State) : (setSegerr s).cu = s.cu := rfl
@[simp] theorem setSegerr_intEnable (s : State) : (setSegerr s).intEnable = s.intEnable := rfl
@[simp] theorem setSegerr_bandPending (s : State) : (setSegerr s).bandPending = s.bandPending := rfl
@[simp] theorem setSegerr_limit (s : State) : (setSegerr s).limit = s.limit := rfl
@[simp] theorem setSegerr_collector (s : State) : (setSegerr s).collector = s.collector := rfl
@[simp] theorem setSegerr_entries (s : State) : (setSegerr s).entries = s.entries := rfl
@[simp] theorem setSegerr_targets (s : State) : (setSegerr s).targets = s.targets := rfl
@[simp] theorem setSegerr_segA (s : State) : (setSegerr s).segA = s.segA := rfl
@[simp] theorem setSegerr_segB (s : State) : (setSegerr s).segB = s.segB := rfl
@[simp] theorem setSegerr_queue (s : State) : (setSegerr s).queue = s.queue := rfl
@[simp] theorem setSegerr_port (s : State) : (setSegerr s).port = s.port := rfl
@[simp] theorem setSegerr_mem (s : State) : (setSegerr s).mem = s.mem := rfl
@[simp] theorem setSegerr_pending (s : State) : (setSegerr s).pending = s.pending := rfl
@[simp] theorem setSegerr_freeIndex (s : State) : (setSegerr s).freeIndex = s.freeIndex := rfl

/-! ### reevaluateLimit -/

@[simp] theorem reevaluateLimit_elapsed (s : State) : (reevaluateLimit s).elapsed = s.elapsed := rfl
@[simp] theorem reevaluateLimit_inReset (s : State) : (reevaluateLimit s).inReset = s.inReset := rfl
@[simp] theorem reevaluateLimit_host (s : State) : (reevaluateLimit s).host = s.host := rfl
@[simp] theorem reevaluateLimit_ctrl (s : State) : (reevaluateLimit s).ctrl = s.ctrl := rfl
@[simp] theorem reevaluateLimit_watermark (s : State) : (reevaluateLimit s).watermark = s.watermark := rfl
@[simp] theorem reevaluateLimit_cu (s : State) : (reevaluateLimit s).cu = s.cu := rfl
@[simp] theorem reevaluateLimit_sticky (s : State) : (reevaluateLimit s).sticky = s.sticky := rfl
@[simp] theorem reevaluateLimit_intEnable (s : State) : (reevaluateLimit s).intEnable = s.intEnable := rfl
@[simp] theorem reevaluateLimit_bandPending (s : State) : (reevaluateLimit s).bandPending = s.bandPending := rfl
@[simp] theorem reevaluateLimit_collector (s : State) : (reevaluateLimit s).collector = s.collector := rfl
@[simp] theorem reevaluateLimit_entries (s : State) : (reevaluateLimit s).entries = s.entries := rfl
@[simp] theorem reevaluateLimit_targets (s : State) : (reevaluateLimit s).targets = s.targets := rfl
@[simp] theorem reevaluateLimit_segA (s : State) : (reevaluateLimit s).segA = s.segA := rfl
@[simp] theorem reevaluateLimit_segB (s : State) : (reevaluateLimit s).segB = s.segB := rfl
@[simp] theorem reevaluateLimit_queue (s : State) : (reevaluateLimit s).queue = s.queue := rfl
@[simp] theorem reevaluateLimit_port (s : State) : (reevaluateLimit s).port = s.port := rfl
@[simp] theorem reevaluateLimit_mem (s : State) : (reevaluateLimit s).mem = s.mem := rfl
@[simp] theorem reevaluateLimit_pending (s : State) : (reevaluateLimit s).pending = s.pending := rfl
@[simp] theorem reevaluateLimit_freeIndex (s : State) : (reevaluateLimit s).freeIndex = s.freeIndex := rfl

/-! ### setBandPending -/

@[simp] theorem setBandPending_elapsed (n : EntryNo) (s : State) : (setBandPending n s).elapsed = s.elapsed := rfl
@[simp] theorem setBandPending_inReset (n : EntryNo) (s : State) : (setBandPending n s).inReset = s.inReset := rfl
@[simp] theorem setBandPending_host (n : EntryNo) (s : State) : (setBandPending n s).host = s.host := rfl
@[simp] theorem setBandPending_ctrl (n : EntryNo) (s : State) : (setBandPending n s).ctrl = s.ctrl := rfl
@[simp] theorem setBandPending_watermark (n : EntryNo) (s : State) : (setBandPending n s).watermark = s.watermark := rfl
@[simp] theorem setBandPending_cu (n : EntryNo) (s : State) : (setBandPending n s).cu = s.cu := rfl
@[simp] theorem setBandPending_sticky (n : EntryNo) (s : State) : (setBandPending n s).sticky = s.sticky := rfl
@[simp] theorem setBandPending_intEnable (n : EntryNo) (s : State) : (setBandPending n s).intEnable = s.intEnable := rfl
@[simp] theorem setBandPending_limit (n : EntryNo) (s : State) : (setBandPending n s).limit = s.limit := rfl
@[simp] theorem setBandPending_collector (n : EntryNo) (s : State) : (setBandPending n s).collector = s.collector := rfl
@[simp] theorem setBandPending_entries (n : EntryNo) (s : State) : (setBandPending n s).entries = s.entries := rfl
@[simp] theorem setBandPending_targets (n : EntryNo) (s : State) : (setBandPending n s).targets = s.targets := rfl
@[simp] theorem setBandPending_segA (n : EntryNo) (s : State) : (setBandPending n s).segA = s.segA := rfl
@[simp] theorem setBandPending_segB (n : EntryNo) (s : State) : (setBandPending n s).segB = s.segB := rfl
@[simp] theorem setBandPending_queue (n : EntryNo) (s : State) : (setBandPending n s).queue = s.queue := rfl
@[simp] theorem setBandPending_port (n : EntryNo) (s : State) : (setBandPending n s).port = s.port := rfl
@[simp] theorem setBandPending_mem (n : EntryNo) (s : State) : (setBandPending n s).mem = s.mem := rfl
@[simp] theorem setBandPending_pending (n : EntryNo) (s : State) : (setBandPending n s).pending = s.pending := rfl
@[simp] theorem setBandPending_freeIndex (n : EntryNo) (s : State) : (setBandPending n s).freeIndex = s.freeIndex := rfl

/-! ### clearBandPending -/

@[simp] theorem clearBandPending_elapsed (n : EntryNo) (s : State) : (clearBandPending n s).elapsed = s.elapsed := rfl
@[simp] theorem clearBandPending_inReset (n : EntryNo) (s : State) : (clearBandPending n s).inReset = s.inReset := rfl
@[simp] theorem clearBandPending_host (n : EntryNo) (s : State) : (clearBandPending n s).host = s.host := rfl
@[simp] theorem clearBandPending_ctrl (n : EntryNo) (s : State) : (clearBandPending n s).ctrl = s.ctrl := rfl
@[simp] theorem clearBandPending_watermark (n : EntryNo) (s : State) : (clearBandPending n s).watermark = s.watermark := rfl
@[simp] theorem clearBandPending_cu (n : EntryNo) (s : State) : (clearBandPending n s).cu = s.cu := rfl
@[simp] theorem clearBandPending_sticky (n : EntryNo) (s : State) : (clearBandPending n s).sticky = s.sticky := rfl
@[simp] theorem clearBandPending_intEnable (n : EntryNo) (s : State) : (clearBandPending n s).intEnable = s.intEnable := rfl
@[simp] theorem clearBandPending_limit (n : EntryNo) (s : State) : (clearBandPending n s).limit = s.limit := rfl
@[simp] theorem clearBandPending_collector (n : EntryNo) (s : State) : (clearBandPending n s).collector = s.collector := rfl
@[simp] theorem clearBandPending_entries (n : EntryNo) (s : State) : (clearBandPending n s).entries = s.entries := rfl
@[simp] theorem clearBandPending_targets (n : EntryNo) (s : State) : (clearBandPending n s).targets = s.targets := rfl
@[simp] theorem clearBandPending_segA (n : EntryNo) (s : State) : (clearBandPending n s).segA = s.segA := rfl
@[simp] theorem clearBandPending_segB (n : EntryNo) (s : State) : (clearBandPending n s).segB = s.segB := rfl
@[simp] theorem clearBandPending_queue (n : EntryNo) (s : State) : (clearBandPending n s).queue = s.queue := rfl
@[simp] theorem clearBandPending_port (n : EntryNo) (s : State) : (clearBandPending n s).port = s.port := rfl
@[simp] theorem clearBandPending_mem (n : EntryNo) (s : State) : (clearBandPending n s).mem = s.mem := rfl
@[simp] theorem clearBandPending_pending (n : EntryNo) (s : State) : (clearBandPending n s).pending = s.pending := rfl
@[simp] theorem clearBandPending_freeIndex (n : EntryNo) (s : State) : (clearBandPending n s).freeIndex = s.freeIndex := rfl

/-! ### clearPendingByte -/

@[simp] theorem clearPendingByte_elapsed (i : Nat) (v : Byte) (s : State) : (clearPendingByte i v s).elapsed = s.elapsed := rfl
@[simp] theorem clearPendingByte_inReset (i : Nat) (v : Byte) (s : State) : (clearPendingByte i v s).inReset = s.inReset := rfl
@[simp] theorem clearPendingByte_host (i : Nat) (v : Byte) (s : State) : (clearPendingByte i v s).host = s.host := rfl
@[simp] theorem clearPendingByte_ctrl (i : Nat) (v : Byte) (s : State) : (clearPendingByte i v s).ctrl = s.ctrl := rfl
@[simp] theorem clearPendingByte_watermark (i : Nat) (v : Byte) (s : State) : (clearPendingByte i v s).watermark = s.watermark := rfl
@[simp] theorem clearPendingByte_cu (i : Nat) (v : Byte) (s : State) : (clearPendingByte i v s).cu = s.cu := rfl
@[simp] theorem clearPendingByte_sticky (i : Nat) (v : Byte) (s : State) : (clearPendingByte i v s).sticky = s.sticky := rfl
@[simp] theorem clearPendingByte_intEnable (i : Nat) (v : Byte) (s : State) : (clearPendingByte i v s).intEnable = s.intEnable := rfl
@[simp] theorem clearPendingByte_limit (i : Nat) (v : Byte) (s : State) : (clearPendingByte i v s).limit = s.limit := rfl
@[simp] theorem clearPendingByte_collector (i : Nat) (v : Byte) (s : State) : (clearPendingByte i v s).collector = s.collector := rfl
@[simp] theorem clearPendingByte_entries (i : Nat) (v : Byte) (s : State) : (clearPendingByte i v s).entries = s.entries := rfl
@[simp] theorem clearPendingByte_targets (i : Nat) (v : Byte) (s : State) : (clearPendingByte i v s).targets = s.targets := rfl
@[simp] theorem clearPendingByte_segA (i : Nat) (v : Byte) (s : State) : (clearPendingByte i v s).segA = s.segA := rfl
@[simp] theorem clearPendingByte_segB (i : Nat) (v : Byte) (s : State) : (clearPendingByte i v s).segB = s.segB := rfl
@[simp] theorem clearPendingByte_queue (i : Nat) (v : Byte) (s : State) : (clearPendingByte i v s).queue = s.queue := rfl
@[simp] theorem clearPendingByte_port (i : Nat) (v : Byte) (s : State) : (clearPendingByte i v s).port = s.port := rfl
@[simp] theorem clearPendingByte_mem (i : Nat) (v : Byte) (s : State) : (clearPendingByte i v s).mem = s.mem := rfl
@[simp] theorem clearPendingByte_pending (i : Nat) (v : Byte) (s : State) : (clearPendingByte i v s).pending = s.pending := rfl
@[simp] theorem clearPendingByte_freeIndex (i : Nat) (v : Byte) (s : State) : (clearPendingByte i v s).freeIndex = s.freeIndex := rfl

/-! ### writeCtrl -/

@[simp] theorem writeCtrl_elapsed (v : Byte) (s : State) : (writeCtrl v s).elapsed = s.elapsed := rfl
@[simp] theorem writeCtrl_inReset (v : Byte) (s : State) : (writeCtrl v s).inReset = s.inReset := rfl
@[simp] theorem writeCtrl_watermark (v : Byte) (s : State) : (writeCtrl v s).watermark = s.watermark := rfl
@[simp] theorem writeCtrl_cu (v : Byte) (s : State) : (writeCtrl v s).cu = s.cu := rfl
@[simp] theorem writeCtrl_sticky (v : Byte) (s : State) : (writeCtrl v s).sticky = s.sticky := rfl
@[simp] theorem writeCtrl_intEnable (v : Byte) (s : State) : (writeCtrl v s).intEnable = s.intEnable := rfl
@[simp] theorem writeCtrl_bandPending (v : Byte) (s : State) : (writeCtrl v s).bandPending = s.bandPending := rfl
@[simp] theorem writeCtrl_limit (v : Byte) (s : State) : (writeCtrl v s).limit = s.limit := rfl
@[simp] theorem writeCtrl_collector (v : Byte) (s : State) : (writeCtrl v s).collector = s.collector := rfl
@[simp] theorem writeCtrl_entries (v : Byte) (s : State) : (writeCtrl v s).entries = s.entries := rfl
@[simp] theorem writeCtrl_targets (v : Byte) (s : State) : (writeCtrl v s).targets = s.targets := rfl
@[simp] theorem writeCtrl_segA (v : Byte) (s : State) : (writeCtrl v s).segA = s.segA := rfl
@[simp] theorem writeCtrl_segB (v : Byte) (s : State) : (writeCtrl v s).segB = s.segB := rfl
@[simp] theorem writeCtrl_queue (v : Byte) (s : State) : (writeCtrl v s).queue = s.queue := rfl
@[simp] theorem writeCtrl_port (v : Byte) (s : State) : (writeCtrl v s).port = s.port := rfl
@[simp] theorem writeCtrl_mem (v : Byte) (s : State) : (writeCtrl v s).mem = s.mem := rfl
@[simp] theorem writeCtrl_pending (v : Byte) (s : State) : (writeCtrl v s).pending = s.pending := rfl
@[simp] theorem writeCtrl_freeIndex (v : Byte) (s : State) : (writeCtrl v s).freeIndex = s.freeIndex := rfl

/-! ### admitRecords -/

@[simp] theorem admitRecords_elapsed (bs : List Body) (s : State) : (admitRecords bs s).elapsed = s.elapsed := rfl
@[simp] theorem admitRecords_inReset (bs : List Body) (s : State) : (admitRecords bs s).inReset = s.inReset := rfl
@[simp] theorem admitRecords_host (bs : List Body) (s : State) : (admitRecords bs s).host = s.host := rfl
@[simp] theorem admitRecords_ctrl (bs : List Body) (s : State) : (admitRecords bs s).ctrl = s.ctrl := rfl
@[simp] theorem admitRecords_watermark (bs : List Body) (s : State) : (admitRecords bs s).watermark = s.watermark := rfl
@[simp] theorem admitRecords_cu (bs : List Body) (s : State) : (admitRecords bs s).cu = s.cu := rfl
@[simp] theorem admitRecords_intEnable (bs : List Body) (s : State) : (admitRecords bs s).intEnable = s.intEnable := rfl
@[simp] theorem admitRecords_bandPending (bs : List Body) (s : State) : (admitRecords bs s).bandPending = s.bandPending := rfl
@[simp] theorem admitRecords_limit (bs : List Body) (s : State) : (admitRecords bs s).limit = s.limit := rfl
@[simp] theorem admitRecords_collector (bs : List Body) (s : State) : (admitRecords bs s).collector = s.collector := rfl
@[simp] theorem admitRecords_entries (bs : List Body) (s : State) : (admitRecords bs s).entries = s.entries := rfl
@[simp] theorem admitRecords_targets (bs : List Body) (s : State) : (admitRecords bs s).targets = s.targets := rfl
@[simp] theorem admitRecords_segA (bs : List Body) (s : State) : (admitRecords bs s).segA = s.segA := rfl
@[simp] theorem admitRecords_segB (bs : List Body) (s : State) : (admitRecords bs s).segB = s.segB := rfl
@[simp] theorem admitRecords_port (bs : List Body) (s : State) : (admitRecords bs s).port = s.port := rfl
@[simp] theorem admitRecords_mem (bs : List Body) (s : State) : (admitRecords bs s).mem = s.mem := rfl
@[simp] theorem admitRecords_pending (bs : List Body) (s : State) : (admitRecords bs s).pending = s.pending := rfl
@[simp] theorem admitRecords_freeIndex (bs : List Body) (s : State) : (admitRecords bs s).freeIndex = s.freeIndex := rfl

/-! ### clearInFlight -/

@[simp] theorem clearInFlight_elapsed (n : EntryNo) (s : State) : (clearInFlight n s).elapsed = s.elapsed := rfl
@[simp] theorem clearInFlight_inReset (n : EntryNo) (s : State) : (clearInFlight n s).inReset = s.inReset := rfl
@[simp] theorem clearInFlight_host (n : EntryNo) (s : State) : (clearInFlight n s).host = s.host := rfl
@[simp] theorem clearInFlight_ctrl (n : EntryNo) (s : State) : (clearInFlight n s).ctrl = s.ctrl := rfl
@[simp] theorem clearInFlight_watermark (n : EntryNo) (s : State) : (clearInFlight n s).watermark = s.watermark := rfl
@[simp] theorem clearInFlight_cu (n : EntryNo) (s : State) : (clearInFlight n s).cu = s.cu := rfl
@[simp] theorem clearInFlight_sticky (n : EntryNo) (s : State) : (clearInFlight n s).sticky = s.sticky := rfl
@[simp] theorem clearInFlight_intEnable (n : EntryNo) (s : State) : (clearInFlight n s).intEnable = s.intEnable := rfl
@[simp] theorem clearInFlight_bandPending (n : EntryNo) (s : State) : (clearInFlight n s).bandPending = s.bandPending := rfl
@[simp] theorem clearInFlight_limit (n : EntryNo) (s : State) : (clearInFlight n s).limit = s.limit := rfl
@[simp] theorem clearInFlight_collector (n : EntryNo) (s : State) : (clearInFlight n s).collector = s.collector := rfl
@[simp] theorem clearInFlight_targets (n : EntryNo) (s : State) : (clearInFlight n s).targets = s.targets := rfl
@[simp] theorem clearInFlight_segA (n : EntryNo) (s : State) : (clearInFlight n s).segA = s.segA := rfl
@[simp] theorem clearInFlight_segB (n : EntryNo) (s : State) : (clearInFlight n s).segB = s.segB := rfl
@[simp] theorem clearInFlight_queue (n : EntryNo) (s : State) : (clearInFlight n s).queue = s.queue := rfl
@[simp] theorem clearInFlight_port (n : EntryNo) (s : State) : (clearInFlight n s).port = s.port := rfl
@[simp] theorem clearInFlight_mem (n : EntryNo) (s : State) : (clearInFlight n s).mem = s.mem := rfl
@[simp] theorem clearInFlight_pending (n : EntryNo) (s : State) : (clearInFlight n s).pending = s.pending := rfl
@[simp] theorem clearInFlight_freeIndex (n : EntryNo) (s : State) : (clearInFlight n s).freeIndex = s.freeIndex := rfl

/-! ### releaseEngine -/

@[simp] theorem releaseEngine_elapsed (x : Segment) (st : EngineState) (s : State) : (releaseEngine x st s).elapsed = s.elapsed := by cases x <;> rfl
@[simp] theorem releaseEngine_inReset (x : Segment) (st : EngineState) (s : State) : (releaseEngine x st s).inReset = s.inReset := by cases x <;> rfl
@[simp] theorem releaseEngine_host (x : Segment) (st : EngineState) (s : State) : (releaseEngine x st s).host = s.host := by cases x <;> rfl
@[simp] theorem releaseEngine_ctrl (x : Segment) (st : EngineState) (s : State) : (releaseEngine x st s).ctrl = s.ctrl := by cases x <;> rfl
@[simp] theorem releaseEngine_watermark (x : Segment) (st : EngineState) (s : State) : (releaseEngine x st s).watermark = s.watermark := by cases x <;> rfl
@[simp] theorem releaseEngine_cu (x : Segment) (st : EngineState) (s : State) : (releaseEngine x st s).cu = s.cu := by cases x <;> rfl
@[simp] theorem releaseEngine_sticky (x : Segment) (st : EngineState) (s : State) : (releaseEngine x st s).sticky = s.sticky := by cases x <;> rfl
@[simp] theorem releaseEngine_intEnable (x : Segment) (st : EngineState) (s : State) : (releaseEngine x st s).intEnable = s.intEnable := by cases x <;> rfl
@[simp] theorem releaseEngine_bandPending (x : Segment) (st : EngineState) (s : State) : (releaseEngine x st s).bandPending = s.bandPending := by cases x <;> rfl
@[simp] theorem releaseEngine_limit (x : Segment) (st : EngineState) (s : State) : (releaseEngine x st s).limit = s.limit := by cases x <;> rfl
@[simp] theorem releaseEngine_collector (x : Segment) (st : EngineState) (s : State) : (releaseEngine x st s).collector = s.collector := by cases x <;> rfl
@[simp] theorem releaseEngine_entries (x : Segment) (st : EngineState) (s : State) : (releaseEngine x st s).entries = s.entries := by cases x <;> rfl
@[simp] theorem releaseEngine_targets (x : Segment) (st : EngineState) (s : State) : (releaseEngine x st s).targets = s.targets := by cases x <;> rfl
@[simp] theorem releaseEngine_queue (x : Segment) (st : EngineState) (s : State) : (releaseEngine x st s).queue = s.queue := by cases x <;> rfl
@[simp] theorem releaseEngine_port (x : Segment) (st : EngineState) (s : State) : (releaseEngine x st s).port = s.port := by cases x <;> rfl
@[simp] theorem releaseEngine_mem (x : Segment) (st : EngineState) (s : State) : (releaseEngine x st s).mem = s.mem := by cases x <;> rfl
@[simp] theorem releaseEngine_pending (x : Segment) (st : EngineState) (s : State) : (releaseEngine x st s).pending = s.pending := by cases x <;> rfl
@[simp] theorem releaseEngine_freeIndex (x : Segment) (st : EngineState) (s : State) : (releaseEngine x st s).freeIndex = s.freeIndex := by cases x <;> rfl

/-! ### ownStop -/

@[simp] theorem ownStop_elapsed (x : Segment) (s : State) : (ownStop x s).elapsed = s.elapsed := by cases x <;> rfl
@[simp] theorem ownStop_inReset (x : Segment) (s : State) : (ownStop x s).inReset = s.inReset := by cases x <;> rfl
@[simp] theorem ownStop_host (x : Segment) (s : State) : (ownStop x s).host = s.host := by cases x <;> rfl
@[simp] theorem ownStop_ctrl (x : Segment) (s : State) : (ownStop x s).ctrl = s.ctrl := by cases x <;> rfl
@[simp] theorem ownStop_watermark (x : Segment) (s : State) : (ownStop x s).watermark = s.watermark := by cases x <;> rfl
@[simp] theorem ownStop_cu (x : Segment) (s : State) : (ownStop x s).cu = s.cu := by cases x <;> rfl
@[simp] theorem ownStop_sticky (x : Segment) (s : State) : (ownStop x s).sticky = s.sticky := by cases x <;> rfl
@[simp] theorem ownStop_intEnable (x : Segment) (s : State) : (ownStop x s).intEnable = s.intEnable := by cases x <;> rfl
@[simp] theorem ownStop_bandPending (x : Segment) (s : State) : (ownStop x s).bandPending = s.bandPending := by cases x <;> rfl
@[simp] theorem ownStop_limit (x : Segment) (s : State) : (ownStop x s).limit = s.limit := by cases x <;> rfl
@[simp] theorem ownStop_collector (x : Segment) (s : State) : (ownStop x s).collector = s.collector := by cases x <;> rfl
@[simp] theorem ownStop_entries (x : Segment) (s : State) : (ownStop x s).entries = s.entries := by cases x <;> rfl
@[simp] theorem ownStop_targets (x : Segment) (s : State) : (ownStop x s).targets = s.targets := by cases x <;> rfl
@[simp] theorem ownStop_queue (x : Segment) (s : State) : (ownStop x s).queue = s.queue := by cases x <;> rfl
@[simp] theorem ownStop_port (x : Segment) (s : State) : (ownStop x s).port = s.port := by cases x <;> rfl
@[simp] theorem ownStop_mem (x : Segment) (s : State) : (ownStop x s).mem = s.mem := by cases x <;> rfl
@[simp] theorem ownStop_pending (x : Segment) (s : State) : (ownStop x s).pending = s.pending := by cases x <;> rfl
@[simp] theorem ownStop_freeIndex (x : Segment) (s : State) : (ownStop x s).freeIndex = s.freeIndex := by cases x <;> rfl

/-! ### The accessors after an update -/

@[simp] theorem State.entry_setEntry (m n : EntryNo) (e : Entry) (s : State) :
    (s.setEntry n e).entry m = if m = n then e else s.entry m := by
  unfold State.entry State.setEntry
  by_cases h : m = n
  · subst h; simp
  · have : n.val ≠ m.val := fun h' => h (Fin.ext h'.symm)
    simp [h, Vector.getElem_set_ne, this]

@[simp] theorem State.entry_mapEntries (m : EntryNo) (f : EntryNo → Entry → Entry) (s : State) :
    (s.mapEntries f).entry m = f m (s.entry m) := by
  simp [State.entry, State.mapEntries]

@[simp] theorem State.target_setTarget (u t : TargetNo) (g : Target) (s : State) :
    (s.setTarget t g).target u = if u = t then g else s.target u := by
  unfold State.target State.setTarget
  by_cases h : u = t
  · subst h; simp
  · have : t.val ≠ u.val := fun h' => h (Fin.ext h'.symm)
    simp [h, Vector.getElem_set_ne, this]

@[simp] theorem State.target_mapTargets (u : TargetNo) (f : Target → Target) (s : State) :
    (s.mapTargets f).target u = f (s.target u) := by
  simp [State.target, State.mapTargets]

@[simp] theorem State.seg_setSeg (x y : Segment) (g : Seg) (s : State) :
    (s.setSeg x g).seg y = if y = x then g else s.seg y := by
  cases x <;> cases y <;> rfl

@[simp] theorem State.seg_modSeg (x y : Segment) (f : Seg → Seg) (s : State) :
    (s.modSeg x f).seg y = if y = x then f (s.seg y) else s.seg y := by
  cases x <;> cases y <;> rfl

@[simp] theorem State.seg_mapSegs (y : Segment) (f : Seg → Seg) (s : State) : (s.mapSegs f).seg y = f (s.seg y) := by
  cases y <;> rfl

/-- Two states with the same entries read the same entry. -/
theorem State.entry_congr {s t : State} (h : t.entries = s.entries) (n : EntryNo) : t.entry n = s.entry n := by
  simp [State.entry, h]

/-- Two states with the same targets read the same target. -/
theorem State.target_congr {s t : State} (h : t.targets = s.targets) (u : TargetNo) : t.target u = s.target u := by
  simp [State.target, h]

/-- Two states with the same segments read the same segment. -/
theorem State.seg_congr {s t : State} (ha : t.segA = s.segA) (hb : t.segB = s.segB) (x : Segment) :
    t.seg x = s.seg x := by
  cases x <;> simp [State.seg, ha, hb]

end Sys2Proof.Machine
end

