-- ==== Sys2Proof/Laws/Ops.lean ====
section
/-! SUPPORT. What the composite operations leave unchanged: one lemma per operation and field, from the lemmas of the
updates they are made of. -/

namespace Sys2Proof.Machine

/-- Everything unlist can change. -/
theorem unlist_frame (n : EntryNo) (s : State) :
    unlist n s =
      { s with entries := (unlist n s).entries, segA := (unlist n s).segA, segB := (unlist n s).segB } := by
  apply State.ext <;> simp [unlist]

@[simp] theorem unlist_elapsed (n : EntryNo) (s : State) : (unlist n s).elapsed = s.elapsed :=
  by rw [unlist_frame]
@[simp] theorem unlist_inReset (n : EntryNo) (s : State) : (unlist n s).inReset = s.inReset :=
  by rw [unlist_frame]
@[simp] theorem unlist_host (n : EntryNo) (s : State) : (unlist n s).host = s.host :=
  by rw [unlist_frame]
@[simp] theorem unlist_ctrl (n : EntryNo) (s : State) : (unlist n s).ctrl = s.ctrl :=
  by rw [unlist_frame]
@[simp] theorem unlist_watermark (n : EntryNo) (s : State) : (unlist n s).watermark = s.watermark :=
  by rw [unlist_frame]
@[simp] theorem unlist_cu (n : EntryNo) (s : State) : (unlist n s).cu = s.cu :=
  by rw [unlist_frame]
@[simp] theorem unlist_sticky (n : EntryNo) (s : State) : (unlist n s).sticky = s.sticky :=
  by rw [unlist_frame]
@[simp] theorem unlist_intEnable (n : EntryNo) (s : State) : (unlist n s).intEnable = s.intEnable :=
  by rw [unlist_frame]
@[simp] theorem unlist_bandPending (n : EntryNo) (s : State) : (unlist n s).bandPending = s.bandPending :=
  by rw [unlist_frame]
@[simp] theorem unlist_limit (n : EntryNo) (s : State) : (unlist n s).limit = s.limit :=
  by rw [unlist_frame]
@[simp] theorem unlist_collector (n : EntryNo) (s : State) : (unlist n s).collector = s.collector :=
  by rw [unlist_frame]
@[simp] theorem unlist_targets (n : EntryNo) (s : State) : (unlist n s).targets = s.targets :=
  by rw [unlist_frame]
@[simp] theorem unlist_queue (n : EntryNo) (s : State) : (unlist n s).queue = s.queue :=
  by rw [unlist_frame]
@[simp] theorem unlist_port (n : EntryNo) (s : State) : (unlist n s).port = s.port :=
  by rw [unlist_frame]
@[simp] theorem unlist_mem (n : EntryNo) (s : State) : (unlist n s).mem = s.mem :=
  by rw [unlist_frame]
@[simp] theorem unlist_pending (n : EntryNo) (s : State) : (unlist n s).pending = s.pending :=
  by rw [unlist_frame]
@[simp] theorem unlist_freeIndex (n : EntryNo) (s : State) : (unlist n s).freeIndex = s.freeIndex :=
  by rw [unlist_frame]

/-- Everything emptyLists can change. -/
theorem emptyLists_frame (x : Segment) (s : State) :
    emptyLists x s =
      { s with entries := (emptyLists x s).entries, segA := (emptyLists x s).segA, segB := (emptyLists x s).segB } := by
  apply State.ext <;> simp [emptyLists]

@[simp] theorem emptyLists_elapsed (x : Segment) (s : State) : (emptyLists x s).elapsed = s.elapsed :=
  by rw [emptyLists_frame]
@[simp] theorem emptyLists_inReset (x : Segment) (s : State) : (emptyLists x s).inReset = s.inReset :=
  by rw [emptyLists_frame]
@[simp] theorem emptyLists_host (x : Segment) (s : State) : (emptyLists x s).host = s.host :=
  by rw [emptyLists_frame]
@[simp] theorem emptyLists_ctrl (x : Segment) (s : State) : (emptyLists x s).ctrl = s.ctrl :=
  by rw [emptyLists_frame]
@[simp] theorem emptyLists_watermark (x : Segment) (s : State) : (emptyLists x s).watermark = s.watermark :=
  by rw [emptyLists_frame]
@[simp] theorem emptyLists_cu (x : Segment) (s : State) : (emptyLists x s).cu = s.cu :=
  by rw [emptyLists_frame]
@[simp] theorem emptyLists_sticky (x : Segment) (s : State) : (emptyLists x s).sticky = s.sticky :=
  by rw [emptyLists_frame]
@[simp] theorem emptyLists_intEnable (x : Segment) (s : State) : (emptyLists x s).intEnable = s.intEnable :=
  by rw [emptyLists_frame]
@[simp] theorem emptyLists_bandPending (x : Segment) (s : State) : (emptyLists x s).bandPending = s.bandPending :=
  by rw [emptyLists_frame]
@[simp] theorem emptyLists_limit (x : Segment) (s : State) : (emptyLists x s).limit = s.limit :=
  by rw [emptyLists_frame]
@[simp] theorem emptyLists_collector (x : Segment) (s : State) : (emptyLists x s).collector = s.collector :=
  by rw [emptyLists_frame]
@[simp] theorem emptyLists_targets (x : Segment) (s : State) : (emptyLists x s).targets = s.targets :=
  by rw [emptyLists_frame]
@[simp] theorem emptyLists_queue (x : Segment) (s : State) : (emptyLists x s).queue = s.queue :=
  by rw [emptyLists_frame]
@[simp] theorem emptyLists_port (x : Segment) (s : State) : (emptyLists x s).port = s.port :=
  by rw [emptyLists_frame]
@[simp] theorem emptyLists_mem (x : Segment) (s : State) : (emptyLists x s).mem = s.mem :=
  by rw [emptyLists_frame]
@[simp] theorem emptyLists_pending (x : Segment) (s : State) : (emptyLists x s).pending = s.pending :=
  by rw [emptyLists_frame]
@[simp] theorem emptyLists_freeIndex (x : Segment) (s : State) : (emptyLists x s).freeIndex = s.freeIndex :=
  by rw [emptyLists_frame]

/-- Everything unlistTarget can change. -/
theorem unlistTarget_frame (t : TargetNo) (s : State) :
    unlistTarget t s =
      { s with entries := (unlistTarget t s).entries, segA := (unlistTarget t s).segA, segB := (unlistTarget t s).segB } := by
  apply State.ext <;> simp [unlistTarget]

@[simp] theorem unlistTarget_elapsed (t : TargetNo) (s : State) : (unlistTarget t s).elapsed = s.elapsed :=
  by rw [unlistTarget_frame]
@[simp] theorem unlistTarget_inReset (t : TargetNo) (s : State) : (unlistTarget t s).inReset = s.inReset :=
  by rw [unlistTarget_frame]
@[simp] theorem unlistTarget_host (t : TargetNo) (s : State) : (unlistTarget t s).host = s.host :=
  by rw [unlistTarget_frame]
@[simp] theorem unlistTarget_ctrl (t : TargetNo) (s : State) : (unlistTarget t s).ctrl = s.ctrl :=
  by rw [unlistTarget_frame]
@[simp] theorem unlistTarget_watermark (t : TargetNo) (s : State) : (unlistTarget t s).watermark = s.watermark :=
  by rw [unlistTarget_frame]
@[simp] theorem unlistTarget_cu (t : TargetNo) (s : State) : (unlistTarget t s).cu = s.cu :=
  by rw [unlistTarget_frame]
@[simp] theorem unlistTarget_sticky (t : TargetNo) (s : State) : (unlistTarget t s).sticky = s.sticky :=
  by rw [unlistTarget_frame]
@[simp] theorem unlistTarget_intEnable (t : TargetNo) (s : State) : (unlistTarget t s).intEnable = s.intEnable :=
  by rw [unlistTarget_frame]
@[simp] theorem unlistTarget_bandPending (t : TargetNo) (s : State) : (unlistTarget t s).bandPending = s.bandPending :=
  by rw [unlistTarget_frame]
@[simp] theorem unlistTarget_limit (t : TargetNo) (s : State) : (unlistTarget t s).limit = s.limit :=
  by rw [unlistTarget_frame]
@[simp] theorem unlistTarget_collector (t : TargetNo) (s : State) : (unlistTarget t s).collector = s.collector :=
  by rw [unlistTarget_frame]
@[simp] theorem unlistTarget_targets (t : TargetNo) (s : State) : (unlistTarget t s).targets = s.targets :=
  by rw [unlistTarget_frame]
@[simp] theorem unlistTarget_queue (t : TargetNo) (s : State) : (unlistTarget t s).queue = s.queue :=
  by rw [unlistTarget_frame]
@[simp] theorem unlistTarget_port (t : TargetNo) (s : State) : (unlistTarget t s).port = s.port :=
  by rw [unlistTarget_frame]
@[simp] theorem unlistTarget_mem (t : TargetNo) (s : State) : (unlistTarget t s).mem = s.mem :=
  by rw [unlistTarget_frame]
@[simp] theorem unlistTarget_pending (t : TargetNo) (s : State) : (unlistTarget t s).pending = s.pending :=
  by rw [unlistTarget_frame]
@[simp] theorem unlistTarget_freeIndex (t : TargetNo) (s : State) : (unlistTarget t s).freeIndex = s.freeIndex :=
  by rw [unlistTarget_frame]

/-- Everything latchCounter can change. -/
theorem latchCounter_frame (c : ReadByte) (s : State) :
    latchCounter c s =
      { s with host := (latchCounter c s).host } := by
  cases c <;> rfl

@[simp] theorem latchCounter_elapsed (c : ReadByte) (s : State) : (latchCounter c s).elapsed = s.elapsed :=
  by rw [latchCounter_frame]
@[simp] theorem latchCounter_inReset (c : ReadByte) (s : State) : (latchCounter c s).inReset = s.inReset :=
  by rw [latchCounter_frame]
@[simp] theorem latchCounter_ctrl (c : ReadByte) (s : State) : (latchCounter c s).ctrl = s.ctrl :=
  by rw [latchCounter_frame]
@[simp] theorem latchCounter_watermark (c : ReadByte) (s : State) : (latchCounter c s).watermark = s.watermark :=
  by rw [latchCounter_frame]
@[simp] theorem latchCounter_cu (c : ReadByte) (s : State) : (latchCounter c s).cu = s.cu :=
  by rw [latchCounter_frame]
@[simp] theorem latchCounter_sticky (c : ReadByte) (s : State) : (latchCounter c s).sticky = s.sticky :=
  by rw [latchCounter_frame]
@[simp] theorem latchCounter_intEnable (c : ReadByte) (s : State) : (latchCounter c s).intEnable = s.intEnable :=
  by rw [latchCounter_frame]
@[simp] theorem latchCounter_bandPending (c : ReadByte) (s : State) : (latchCounter c s).bandPending = s.bandPending :=
  by rw [latchCounter_frame]
@[simp] theorem latchCounter_limit (c : ReadByte) (s : State) : (latchCounter c s).limit = s.limit :=
  by rw [latchCounter_frame]
@[simp] theorem latchCounter_collector (c : ReadByte) (s : State) : (latchCounter c s).collector = s.collector :=
  by rw [latchCounter_frame]
@[simp] theorem latchCounter_entries (c : ReadByte) (s : State) : (latchCounter c s).entries = s.entries :=
  by rw [latchCounter_frame]
@[simp] theorem latchCounter_targets (c : ReadByte) (s : State) : (latchCounter c s).targets = s.targets :=
  by rw [latchCounter_frame]
@[simp] theorem latchCounter_segA (c : ReadByte) (s : State) : (latchCounter c s).segA = s.segA :=
  by rw [latchCounter_frame]
@[simp] theorem latchCounter_segB (c : ReadByte) (s : State) : (latchCounter c s).segB = s.segB :=
  by rw [latchCounter_frame]
@[simp] theorem latchCounter_queue (c : ReadByte) (s : State) : (latchCounter c s).queue = s.queue :=
  by rw [latchCounter_frame]
@[simp] theorem latchCounter_port (c : ReadByte) (s : State) : (latchCounter c s).port = s.port :=
  by rw [latchCounter_frame]
@[simp] theorem latchCounter_mem (c : ReadByte) (s : State) : (latchCounter c s).mem = s.mem :=
  by rw [latchCounter_frame]
@[simp] theorem latchCounter_pending (c : ReadByte) (s : State) : (latchCounter c s).pending = s.pending :=
  by rw [latchCounter_frame]
@[simp] theorem latchCounter_freeIndex (c : ReadByte) (s : State) : (latchCounter c s).freeIndex = s.freeIndex :=
  by rw [latchCounter_frame]

/-- Everything applyEntryLoad can change. -/
theorem applyEntryLoad_frame (n : EntryNo) (c : Option EntryDef) (s : State) :
    applyEntryLoad n c s =
      { s with entries := (applyEntryLoad n c s).entries, segA := (applyEntryLoad n c s).segA, segB := (applyEntryLoad n c s).segB, bandPending := (applyEntryLoad n c s).bandPending, limit := (applyEntryLoad n c s).limit } := by
  apply State.ext <;> simp [applyEntryLoad]

@[simp] theorem applyEntryLoad_elapsed (n : EntryNo) (c : Option EntryDef) (s : State) : (applyEntryLoad n c s).elapsed = s.elapsed :=
  by rw [applyEntryLoad_frame]
@[simp] theorem applyEntryLoad_inReset (n : EntryNo) (c : Option EntryDef) (s : State) : (applyEntryLoad n c s).inReset = s.inReset :=
  by rw [applyEntryLoad_frame]
@[simp] theorem applyEntryLoad_host (n : EntryNo) (c : Option EntryDef) (s : State) : (applyEntryLoad n c s).host = s.host :=
  by rw [applyEntryLoad_frame]
@[simp] theorem applyEntryLoad_ctrl (n : EntryNo) (c : Option EntryDef) (s : State) : (applyEntryLoad n c s).ctrl = s.ctrl :=
  by rw [applyEntryLoad_frame]
@[simp] theorem applyEntryLoad_watermark (n : EntryNo) (c : Option EntryDef) (s : State) : (applyEntryLoad n c s).watermark = s.watermark :=
  by rw [applyEntryLoad_frame]
@[simp] theorem applyEntryLoad_cu (n : EntryNo) (c : Option EntryDef) (s : State) : (applyEntryLoad n c s).cu = s.cu :=
  by rw [applyEntryLoad_frame]
@[simp] theorem applyEntryLoad_sticky (n : EntryNo) (c : Option EntryDef) (s : State) : (applyEntryLoad n c s).sticky = s.sticky :=
  by rw [applyEntryLoad_frame]
@[simp] theorem applyEntryLoad_intEnable (n : EntryNo) (c : Option EntryDef) (s : State) : (applyEntryLoad n c s).intEnable = s.intEnable :=
  by rw [applyEntryLoad_frame]
@[simp] theorem applyEntryLoad_collector (n : EntryNo) (c : Option EntryDef) (s : State) : (applyEntryLoad n c s).collector = s.collector :=
  by rw [applyEntryLoad_frame]
@[simp] theorem applyEntryLoad_targets (n : EntryNo) (c : Option EntryDef) (s : State) : (applyEntryLoad n c s).targets = s.targets :=
  by rw [applyEntryLoad_frame]
@[simp] theorem applyEntryLoad_queue (n : EntryNo) (c : Option EntryDef) (s : State) : (applyEntryLoad n c s).queue = s.queue :=
  by rw [applyEntryLoad_frame]
@[simp] theorem applyEntryLoad_port (n : EntryNo) (c : Option EntryDef) (s : State) : (applyEntryLoad n c s).port = s.port :=
  by rw [applyEntryLoad_frame]
@[simp] theorem applyEntryLoad_mem (n : EntryNo) (c : Option EntryDef) (s : State) : (applyEntryLoad n c s).mem = s.mem :=
  by rw [applyEntryLoad_frame]
@[simp] theorem applyEntryLoad_pending (n : EntryNo) (c : Option EntryDef) (s : State) : (applyEntryLoad n c s).pending = s.pending :=
  by rw [applyEntryLoad_frame]
@[simp] theorem applyEntryLoad_freeIndex (n : EntryNo) (c : Option EntryDef) (s : State) : (applyEntryLoad n c s).freeIndex = s.freeIndex :=
  by rw [applyEntryLoad_frame]

/-- Everything applyTargetLoad can change. -/
theorem applyTargetLoad_frame (t : TargetNo) (d : TargetDef) (s : State) :
    applyTargetLoad t d s =
      { s with entries := (applyTargetLoad t d s).entries, segA := (applyTargetLoad t d s).segA, segB := (applyTargetLoad t d s).segB, targets := (applyTargetLoad t d s).targets } := by
  apply State.ext <;> simp only [applyTargetLoad] <;> split <;> simp

@[simp] theorem applyTargetLoad_elapsed (t : TargetNo) (d : TargetDef) (s : State) : (applyTargetLoad t d s).elapsed = s.elapsed :=
  by rw [applyTargetLoad_frame]
@[simp] theorem applyTargetLoad_inReset (t : TargetNo) (d : TargetDef) (s : State) : (applyTargetLoad t d s).inReset = s.inReset :=
  by rw [applyTargetLoad_frame]
@[simp] theorem applyTargetLoad_host (t : TargetNo) (d : TargetDef) (s : State) : (applyTargetLoad t d s).host = s.host :=
  by rw [applyTargetLoad_frame]
@[simp] theorem applyTargetLoad_ctrl (t : TargetNo) (d : TargetDef) (s : State) : (applyTargetLoad t d s).ctrl = s.ctrl :=
  by rw [applyTargetLoad_frame]
@[simp] theorem applyTargetLoad_watermark (t : TargetNo) (d : TargetDef) (s : State) : (applyTargetLoad t d s).watermark = s.watermark :=
  by rw [applyTargetLoad_frame]
@[simp] theorem applyTargetLoad_cu (t : TargetNo) (d : TargetDef) (s : State) : (applyTargetLoad t d s).cu = s.cu :=
  by rw [applyTargetLoad_frame]
@[simp] theorem applyTargetLoad_sticky (t : TargetNo) (d : TargetDef) (s : State) : (applyTargetLoad t d s).sticky = s.sticky :=
  by rw [applyTargetLoad_frame]
@[simp] theorem applyTargetLoad_intEnable (t : TargetNo) (d : TargetDef) (s : State) : (applyTargetLoad t d s).intEnable = s.intEnable :=
  by rw [applyTargetLoad_frame]
@[simp] theorem applyTargetLoad_bandPending (t : TargetNo) (d : TargetDef) (s : State) : (applyTargetLoad t d s).bandPending = s.bandPending :=
  by rw [applyTargetLoad_frame]
@[simp] theorem applyTargetLoad_limit (t : TargetNo) (d : TargetDef) (s : State) : (applyTargetLoad t d s).limit = s.limit :=
  by rw [applyTargetLoad_frame]
@[simp] theorem applyTargetLoad_collector (t : TargetNo) (d : TargetDef) (s : State) : (applyTargetLoad t d s).collector = s.collector :=
  by rw [applyTargetLoad_frame]
@[simp] theorem applyTargetLoad_queue (t : TargetNo) (d : TargetDef) (s : State) : (applyTargetLoad t d s).queue = s.queue :=
  by rw [applyTargetLoad_frame]
@[simp] theorem applyTargetLoad_port (t : TargetNo) (d : TargetDef) (s : State) : (applyTargetLoad t d s).port = s.port :=
  by rw [applyTargetLoad_frame]
@[simp] theorem applyTargetLoad_mem (t : TargetNo) (d : TargetDef) (s : State) : (applyTargetLoad t d s).mem = s.mem :=
  by rw [applyTargetLoad_frame]
@[simp] theorem applyTargetLoad_pending (t : TargetNo) (d : TargetDef) (s : State) : (applyTargetLoad t d s).pending = s.pending :=
  by rw [applyTargetLoad_frame]
@[simp] theorem applyTargetLoad_freeIndex (t : TargetNo) (d : TargetDef) (s : State) : (applyTargetLoad t d s).freeIndex = s.freeIndex :=
  by rw [applyTargetLoad_frame]

/-- Everything processCompletion can change. -/
theorem processCompletion_frame (p : PollWork) (o : WorkOutcome) (data : List Byte) (s : State) :
    processCompletion p o data s =
      { s with targets := (processCompletion p o data s).targets, entries := (processCompletion p o data s).entries, segA := (processCompletion p o data s).segA, segB := (processCompletion p o data s).segB, sticky := (processCompletion p o data s).sticky, bandPending := (processCompletion p o data s).bandPending, limit := (processCompletion p o data s).limit, queue := (processCompletion p o data s).queue } := by
  apply State.ext <;> first | rfl | (unfold processCompletion; dsimp only; repeat (split <;> try simp))

@[simp] theorem processCompletion_elapsed (p : PollWork) (o : WorkOutcome) (data : List Byte) (s : State) : (processCompletion p o data s).elapsed = s.elapsed :=
  by rw [processCompletion_frame]
@[simp] theorem processCompletion_inReset (p : PollWork) (o : WorkOutcome) (data : List Byte) (s : State) : (processCompletion p o data s).inReset = s.inReset :=
  by rw [processCompletion_frame]
@[simp] theorem processCompletion_host (p : PollWork) (o : WorkOutcome) (data : List Byte) (s : State) : (processCompletion p o data s).host = s.host :=
  by rw [processCompletion_frame]
@[simp] theorem processCompletion_ctrl (p : PollWork) (o : WorkOutcome) (data : List Byte) (s : State) : (processCompletion p o data s).ctrl = s.ctrl :=
  by rw [processCompletion_frame]
@[simp] theorem processCompletion_watermark (p : PollWork) (o : WorkOutcome) (data : List Byte) (s : State) : (processCompletion p o data s).watermark = s.watermark :=
  by rw [processCompletion_frame]
@[simp] theorem processCompletion_cu (p : PollWork) (o : WorkOutcome) (data : List Byte) (s : State) : (processCompletion p o data s).cu = s.cu :=
  by rw [processCompletion_frame]
@[simp] theorem processCompletion_intEnable (p : PollWork) (o : WorkOutcome) (data : List Byte) (s : State) : (processCompletion p o data s).intEnable = s.intEnable :=
  by rw [processCompletion_frame]
@[simp] theorem processCompletion_collector (p : PollWork) (o : WorkOutcome) (data : List Byte) (s : State) : (processCompletion p o data s).collector = s.collector :=
  by rw [processCompletion_frame]
@[simp] theorem processCompletion_port (p : PollWork) (o : WorkOutcome) (data : List Byte) (s : State) : (processCompletion p o data s).port = s.port :=
  by rw [processCompletion_frame]
@[simp] theorem processCompletion_mem (p : PollWork) (o : WorkOutcome) (data : List Byte) (s : State) : (processCompletion p o data s).mem = s.mem :=
  by rw [processCompletion_frame]
@[simp] theorem processCompletion_pending (p : PollWork) (o : WorkOutcome) (data : List Byte) (s : State) : (processCompletion p o data s).pending = s.pending :=
  by rw [processCompletion_frame]
@[simp] theorem processCompletion_freeIndex (p : PollWork) (o : WorkOutcome) (data : List Byte) (s : State) : (processCompletion p o data s).freeIndex = s.freeIndex :=
  by rw [processCompletion_frame]

/-- Everything endProcessing can change. -/
theorem endProcessing_frame (p : PollWork) (s : State) :
    endProcessing p s =
      { s with targets := (endProcessing p s).targets, entries := (endProcessing p s).entries, segA := (endProcessing p s).segA, segB := (endProcessing p s).segB, sticky := (endProcessing p s).sticky, bandPending := (endProcessing p s).bandPending, limit := (endProcessing p s).limit, cu := (endProcessing p s).cu } := by
  apply State.ext <;> first | rfl | (unfold endProcessing; repeat (split <;> try simp))

@[simp] theorem endProcessing_elapsed (p : PollWork) (s : State) : (endProcessing p s).elapsed = s.elapsed :=
  by rw [endProcessing_frame]
@[simp] theorem endProcessing_inReset (p : PollWork) (s : State) : (endProcessing p s).inReset = s.inReset :=
  by rw [endProcessing_frame]
@[simp] theorem endProcessing_host (p : PollWork) (s : State) : (endProcessing p s).host = s.host :=
  by rw [endProcessing_frame]
@[simp] theorem endProcessing_ctrl (p : PollWork) (s : State) : (endProcessing p s).ctrl = s.ctrl :=
  by rw [endProcessing_frame]
@[simp] theorem endProcessing_watermark (p : PollWork) (s : State) : (endProcessing p s).watermark = s.watermark :=
  by rw [endProcessing_frame]
@[simp] theorem endProcessing_intEnable (p : PollWork) (s : State) : (endProcessing p s).intEnable = s.intEnable :=
  by rw [endProcessing_frame]
@[simp] theorem endProcessing_collector (p : PollWork) (s : State) : (endProcessing p s).collector = s.collector :=
  by rw [endProcessing_frame]
@[simp] theorem endProcessing_queue (p : PollWork) (s : State) : (endProcessing p s).queue = s.queue :=
  by rw [endProcessing_frame]
@[simp] theorem endProcessing_port (p : PollWork) (s : State) : (endProcessing p s).port = s.port :=
  by rw [endProcessing_frame]
@[simp] theorem endProcessing_mem (p : PollWork) (s : State) : (endProcessing p s).mem = s.mem :=
  by rw [endProcessing_frame]
@[simp] theorem endProcessing_pending (p : PollWork) (s : State) : (endProcessing p s).pending = s.pending :=
  by rw [endProcessing_frame]
@[simp] theorem endProcessing_freeIndex (p : PollWork) (s : State) : (endProcessing p s).freeIndex = s.freeIndex :=
  by rw [endProcessing_frame]

/-- Everything finishPoll can change. -/
theorem finishPoll_frame (p : PollWork) (o : WorkOutcome) (data : List Byte) (s : State) :
    finishPoll p o data s =
      { s with targets := (finishPoll p o data s).targets, entries := (finishPoll p o data s).entries, segA := (finishPoll p o data s).segA, segB := (finishPoll p o data s).segB, sticky := (finishPoll p o data s).sticky, bandPending := (finishPoll p o data s).bandPending, limit := (finishPoll p o data s).limit, queue := (finishPoll p o data s).queue, cu := (finishPoll p o data s).cu } := by
  apply State.ext <;> simp [finishPoll]

@[simp] theorem finishPoll_elapsed (p : PollWork) (o : WorkOutcome) (data : List Byte) (s : State) : (finishPoll p o data s).elapsed = s.elapsed :=
  by rw [finishPoll_frame]
@[simp] theorem finishPoll_inReset (p : PollWork) (o : WorkOutcome) (data : List Byte) (s : State) : (finishPoll p o data s).inReset = s.inReset :=
  by rw [finishPoll_frame]
@[simp] theorem finishPoll_host (p : PollWork) (o : WorkOutcome) (data : List Byte) (s : State) : (finishPoll p o data s).host = s.host :=
  by rw [finishPoll_frame]
@[simp] theorem finishPoll_ctrl (p : PollWork) (o : WorkOutcome) (data : List Byte) (s : State) : (finishPoll p o data s).ctrl = s.ctrl :=
  by rw [finishPoll_frame]
@[simp] theorem finishPoll_watermark (p : PollWork) (o : WorkOutcome) (data : List Byte) (s : State) : (finishPoll p o data s).watermark = s.watermark :=
  by rw [finishPoll_frame]
@[simp] theorem finishPoll_intEnable (p : PollWork) (o : WorkOutcome) (data : List Byte) (s : State) : (finishPoll p o data s).intEnable = s.intEnable :=
  by rw [finishPoll_frame]
@[simp] theorem finishPoll_collector (p : PollWork) (o : WorkOutcome) (data : List Byte) (s : State) : (finishPoll p o data s).collector = s.collector :=
  by rw [finishPoll_frame]
@[simp] theorem finishPoll_port (p : PollWork) (o : WorkOutcome) (data : List Byte) (s : State) : (finishPoll p o data s).port = s.port :=
  by rw [finishPoll_frame]
@[simp] theorem finishPoll_mem (p : PollWork) (o : WorkOutcome) (data : List Byte) (s : State) : (finishPoll p o data s).mem = s.mem :=
  by rw [finishPoll_frame]
@[simp] theorem finishPoll_pending (p : PollWork) (o : WorkOutcome) (data : List Byte) (s : State) : (finishPoll p o data s).pending = s.pending :=
  by rw [finishPoll_frame]
@[simp] theorem finishPoll_freeIndex (p : PollWork) (o : WorkOutcome) (data : List Byte) (s : State) : (finishPoll p o data s).freeIndex = s.freeIndex :=
  by rw [finishPoll_frame]

/-- Everything finishRaw can change. -/
theorem finishRaw_frame (r : RawParams) (o : WorkOutcome) (data : List Byte) (s : State) :
    finishRaw r o data s =
      { s with cu := (finishRaw r o data s).cu, sticky := (finishRaw r o data s).sticky, mem := (finishRaw r o data s).mem } := by
  apply State.ext <;> first | rfl | (unfold finishRaw; repeat (split <;> try simp))

@[simp] theorem finishRaw_elapsed (r : RawParams) (o : WorkOutcome) (data : List Byte) (s : State) : (finishRaw r o data s).elapsed = s.elapsed :=
  by rw [finishRaw_frame]
@[simp] theorem finishRaw_inReset (r : RawParams) (o : WorkOutcome) (data : List Byte) (s : State) : (finishRaw r o data s).inReset = s.inReset :=
  by rw [finishRaw_frame]
@[simp] theorem finishRaw_host (r : RawParams) (o : WorkOutcome) (data : List Byte) (s : State) : (finishRaw r o data s).host = s.host :=
  by rw [finishRaw_frame]
@[simp] theorem finishRaw_ctrl (r : RawParams) (o : WorkOutcome) (data : List Byte) (s : State) : (finishRaw r o data s).ctrl = s.ctrl :=
  by rw [finishRaw_frame]
@[simp] theorem finishRaw_watermark (r : RawParams) (o : WorkOutcome) (data : List Byte) (s : State) : (finishRaw r o data s).watermark = s.watermark :=
  by rw [finishRaw_frame]
@[simp] theorem finishRaw_intEnable (r : RawParams) (o : WorkOutcome) (data : List Byte) (s : State) : (finishRaw r o data s).intEnable = s.intEnable :=
  by rw [finishRaw_frame]
@[simp] theorem finishRaw_bandPending (r : RawParams) (o : WorkOutcome) (data : List Byte) (s : State) : (finishRaw r o data s).bandPending = s.bandPending :=
  by rw [finishRaw_frame]
@[simp] theorem finishRaw_limit (r : RawParams) (o : WorkOutcome) (data : List Byte) (s : State) : (finishRaw r o data s).limit = s.limit :=
  by rw [finishRaw_frame]
@[simp] theorem finishRaw_collector (r : RawParams) (o : WorkOutcome) (data : List Byte) (s : State) : (finishRaw r o data s).collector = s.collector :=
  by rw [finishRaw_frame]
@[simp] theorem finishRaw_entries (r : RawParams) (o : WorkOutcome) (data : List Byte) (s : State) : (finishRaw r o data s).entries = s.entries :=
  by rw [finishRaw_frame]
@[simp] theorem finishRaw_targets (r : RawParams) (o : WorkOutcome) (data : List Byte) (s : State) : (finishRaw r o data s).targets = s.targets :=
  by rw [finishRaw_frame]
@[simp] theorem finishRaw_segA (r : RawParams) (o : WorkOutcome) (data : List Byte) (s : State) : (finishRaw r o data s).segA = s.segA :=
  by rw [finishRaw_frame]
@[simp] theorem finishRaw_segB (r : RawParams) (o : WorkOutcome) (data : List Byte) (s : State) : (finishRaw r o data s).segB = s.segB :=
  by rw [finishRaw_frame]
@[simp] theorem finishRaw_queue (r : RawParams) (o : WorkOutcome) (data : List Byte) (s : State) : (finishRaw r o data s).queue = s.queue :=
  by rw [finishRaw_frame]
@[simp] theorem finishRaw_port (r : RawParams) (o : WorkOutcome) (data : List Byte) (s : State) : (finishRaw r o data s).port = s.port :=
  by rw [finishRaw_frame]
@[simp] theorem finishRaw_pending (r : RawParams) (o : WorkOutcome) (data : List Byte) (s : State) : (finishRaw r o data s).pending = s.pending :=
  by rw [finishRaw_frame]
@[simp] theorem finishRaw_freeIndex (r : RawParams) (o : WorkOutcome) (data : List Byte) (s : State) : (finishRaw r o data s).freeIndex = s.freeIndex :=
  by rw [finishRaw_frame]

/-- Everything finishWork can change. -/
theorem finishWork_frame (x : Segment) (w : Work) (o : WorkOutcome) (data : List Byte) (st : EngineState) (s : State) :
    finishWork x w o data st s =
      { s with targets := (finishWork x w o data st s).targets, entries := (finishWork x w o data st s).entries, segA := (finishWork x w o data st s).segA, segB := (finishWork x w o data st s).segB, sticky := (finishWork x w o data st s).sticky, bandPending := (finishWork x w o data st s).bandPending, limit := (finishWork x w o data st s).limit, queue := (finishWork x w o data st s).queue, cu := (finishWork x w o data st s).cu, mem := (finishWork x w o data st s).mem } := by
  cases w <;> apply State.ext <;> first | rfl | simp [finishWork]

@[simp] theorem finishWork_elapsed (x : Segment) (w : Work) (o : WorkOutcome) (data : List Byte) (st : EngineState) (s : State) : (finishWork x w o data st s).elapsed = s.elapsed :=
  by rw [finishWork_frame]
@[simp] theorem finishWork_inReset (x : Segment) (w : Work) (o : WorkOutcome) (data : List Byte) (st : EngineState) (s : State) : (finishWork x w o data st s).inReset = s.inReset :=
  by rw [finishWork_frame]
@[simp] theorem finishWork_host (x : Segment) (w : Work) (o : WorkOutcome) (data : List Byte) (st : EngineState) (s : State) : (finishWork x w o data st s).host = s.host :=
  by rw [finishWork_frame]
@[simp] theorem finishWork_ctrl (x : Segment) (w : Work) (o : WorkOutcome) (data : List Byte) (st : EngineState) (s : State) : (finishWork x w o data st s).ctrl = s.ctrl :=
  by rw [finishWork_frame]
@[simp] theorem finishWork_watermark (x : Segment) (w : Work) (o : WorkOutcome) (data : List Byte) (st : EngineState) (s : State) : (finishWork x w o data st s).watermark = s.watermark :=
  by rw [finishWork_frame]
@[simp] theorem finishWork_intEnable (x : Segment) (w : Work) (o : WorkOutcome) (data : List Byte) (st : EngineState) (s : State) : (finishWork x w o data st s).intEnable = s.intEnable :=
  by rw [finishWork_frame]
@[simp] theorem finishWork_collector (x : Segment) (w : Work) (o : WorkOutcome) (data : List Byte) (st : EngineState) (s : State) : (finishWork x w o data st s).collector = s.collector :=
  by rw [finishWork_frame]
@[simp] theorem finishWork_port (x : Segment) (w : Work) (o : WorkOutcome) (data : List Byte) (st : EngineState) (s : State) : (finishWork x w o data st s).port = s.port :=
  by rw [finishWork_frame]
@[simp] theorem finishWork_pending (x : Segment) (w : Work) (o : WorkOutcome) (data : List Byte) (st : EngineState) (s : State) : (finishWork x w o data st s).pending = s.pending :=
  by rw [finishWork_frame]
@[simp] theorem finishWork_freeIndex (x : Segment) (w : Work) (o : WorkOutcome) (data : List Byte) (st : EngineState) (s : State) : (finishWork x w o data st s).freeIndex = s.freeIndex :=
  by rw [finishWork_frame]

/-- Everything runToStop can change. -/
theorem runToStop_frame (x : Segment) (w : Work) (resp : WireResponse) (s : State) :
    runToStop x w resp s =
      { s with targets := (runToStop x w resp s).targets, entries := (runToStop x w resp s).entries, segA := (runToStop x w resp s).segA, segB := (runToStop x w resp s).segB, sticky := (runToStop x w resp s).sticky, bandPending := (runToStop x w resp s).bandPending, limit := (runToStop x w resp s).limit, queue := (runToStop x w resp s).queue, cu := (runToStop x w resp s).cu, mem := (runToStop x w resp s).mem } := by
  apply State.ext <;> first | rfl | simp [runToStop]

@[simp] theorem runToStop_elapsed (x : Segment) (w : Work) (resp : WireResponse) (s : State) : (runToStop x w resp s).elapsed = s.elapsed :=
  by rw [runToStop_frame]
@[simp] theorem runToStop_inReset (x : Segment) (w : Work) (resp : WireResponse) (s : State) : (runToStop x w resp s).inReset = s.inReset :=
  by rw [runToStop_frame]
@[simp] theorem runToStop_host (x : Segment) (w : Work) (resp : WireResponse) (s : State) : (runToStop x w resp s).host = s.host :=
  by rw [runToStop_frame]
@[simp] theorem runToStop_ctrl (x : Segment) (w : Work) (resp : WireResponse) (s : State) : (runToStop x w resp s).ctrl = s.ctrl :=
  by rw [runToStop_frame]
@[simp] theorem runToStop_watermark (x : Segment) (w : Work) (resp : WireResponse) (s : State) : (runToStop x w resp s).watermark = s.watermark :=
  by rw [runToStop_frame]
@[simp] theorem runToStop_intEnable (x : Segment) (w : Work) (resp : WireResponse) (s : State) : (runToStop x w resp s).intEnable = s.intEnable :=
  by rw [runToStop_frame]
@[simp] theorem runToStop_collector (x : Segment) (w : Work) (resp : WireResponse) (s : State) : (runToStop x w resp s).collector = s.collector :=
  by rw [runToStop_frame]
@[simp] theorem runToStop_port (x : Segment) (w : Work) (resp : WireResponse) (s : State) : (runToStop x w resp s).port = s.port :=
  by rw [runToStop_frame]
@[simp] theorem runToStop_pending (x : Segment) (w : Work) (resp : WireResponse) (s : State) : (runToStop x w resp s).pending = s.pending :=
  by rw [runToStop_frame]
@[simp] theorem runToStop_freeIndex (x : Segment) (w : Work) (resp : WireResponse) (s : State) : (runToStop x w resp s).freeIndex = s.freeIndex :=
  by rw [runToStop_frame]

/-- Everything loseArbitration can change. -/
theorem loseArbitration_frame (x : Segment) (w : Work) (s : State) :
    loseArbitration x w s =
      { s with targets := (loseArbitration x w s).targets, entries := (loseArbitration x w s).entries, segA := (loseArbitration x w s).segA, segB := (loseArbitration x w s).segB, sticky := (loseArbitration x w s).sticky, bandPending := (loseArbitration x w s).bandPending, limit := (loseArbitration x w s).limit, queue := (loseArbitration x w s).queue, cu := (loseArbitration x w s).cu, mem := (loseArbitration x w s).mem } := by
  apply State.ext <;> first | rfl | (unfold loseArbitration; dsimp only; split <;> simp)

@[simp] theorem loseArbitration_elapsed (x : Segment) (w : Work) (s : State) : (loseArbitration x w s).elapsed = s.elapsed :=
  by rw [loseArbitration_frame]
@[simp] theorem loseArbitration_inReset (x : Segment) (w : Work) (s : State) : (loseArbitration x w s).inReset = s.inReset :=
  by rw [loseArbitration_frame]
@[simp] theorem loseArbitration_host (x : Segment) (w : Work) (s : State) : (loseArbitration x w s).host = s.host :=
  by rw [loseArbitration_frame]
@[simp] theorem loseArbitration_ctrl (x : Segment) (w : Work) (s : State) : (loseArbitration x w s).ctrl = s.ctrl :=
  by rw [loseArbitration_frame]
@[simp] theorem loseArbitration_watermark (x : Segment) (w : Work) (s : State) : (loseArbitration x w s).watermark = s.watermark :=
  by rw [loseArbitration_frame]
@[simp] theorem loseArbitration_intEnable (x : Segment) (w : Work) (s : State) : (loseArbitration x w s).intEnable = s.intEnable :=
  by rw [loseArbitration_frame]
@[simp] theorem loseArbitration_collector (x : Segment) (w : Work) (s : State) : (loseArbitration x w s).collector = s.collector :=
  by rw [loseArbitration_frame]
@[simp] theorem loseArbitration_port (x : Segment) (w : Work) (s : State) : (loseArbitration x w s).port = s.port :=
  by rw [loseArbitration_frame]
@[simp] theorem loseArbitration_pending (x : Segment) (w : Work) (s : State) : (loseArbitration x w s).pending = s.pending :=
  by rw [loseArbitration_frame]
@[simp] theorem loseArbitration_freeIndex (x : Segment) (w : Work) (s : State) : (loseArbitration x w s).freeIndex = s.freeIndex :=
  by rw [loseArbitration_frame]

/-- Everything passUnit can change. -/
theorem passUnit_frame (s : State) :
    passUnit s =
      { s with elapsed := (passUnit s).elapsed, targets := (passUnit s).targets } := by
  apply State.ext <;> first | rfl | (unfold passUnit; dsimp only; split <;> simp)

@[simp] theorem passUnit_inReset (s : State) : (passUnit s).inReset = s.inReset :=
  by rw [passUnit_frame]
@[simp] theorem passUnit_host (s : State) : (passUnit s).host = s.host :=
  by rw [passUnit_frame]
@[simp] theorem passUnit_ctrl (s : State) : (passUnit s).ctrl = s.ctrl :=
  by rw [passUnit_frame]
@[simp] theorem passUnit_watermark (s : State) : (passUnit s).watermark = s.watermark :=
  by rw [passUnit_frame]
@[simp] theorem passUnit_cu (s : State) : (passUnit s).cu = s.cu :=
  by rw [passUnit_frame]
@[simp] theorem passUnit_sticky (s : State) : (passUnit s).sticky = s.sticky :=
  by rw [passUnit_frame]
@[simp] theorem passUnit_intEnable (s : State) : (passUnit s).intEnable = s.intEnable :=
  by rw [passUnit_frame]
@[simp] theorem passUnit_bandPending (s : State) : (passUnit s).bandPending = s.bandPending :=
  by rw [passUnit_frame]
@[simp] theorem passUnit_limit (s : State) : (passUnit s).limit = s.limit :=
  by rw [passUnit_frame]
@[simp] theorem passUnit_collector (s : State) : (passUnit s).collector = s.collector :=
  by rw [passUnit_frame]
@[simp] theorem passUnit_entries (s : State) : (passUnit s).entries = s.entries :=
  by rw [passUnit_frame]
@[simp] theorem passUnit_segA (s : State) : (passUnit s).segA = s.segA :=
  by rw [passUnit_frame]
@[simp] theorem passUnit_segB (s : State) : (passUnit s).segB = s.segB :=
  by rw [passUnit_frame]
@[simp] theorem passUnit_queue (s : State) : (passUnit s).queue = s.queue :=
  by rw [passUnit_frame]
@[simp] theorem passUnit_port (s : State) : (passUnit s).port = s.port :=
  by rw [passUnit_frame]
@[simp] theorem passUnit_mem (s : State) : (passUnit s).mem = s.mem :=
  by rw [passUnit_frame]
@[simp] theorem passUnit_pending (s : State) : (passUnit s).pending = s.pending :=
  by rw [passUnit_frame]
@[simp] theorem passUnit_freeIndex (s : State) : (passUnit s).freeIndex = s.freeIndex :=
  by rw [passUnit_frame]

/-- Everything attentionEvent can change. -/
theorem attentionEvent_frame (x : Segment) (s : State) :
    attentionEvent x s =
      { s with entries := (attentionEvent x s).entries } := by
  apply State.ext <;> first | rfl | (unfold attentionEvent; dsimp only; split <;> simp)

@[simp] theorem attentionEvent_elapsed (x : Segment) (s : State) : (attentionEvent x s).elapsed = s.elapsed :=
  by rw [attentionEvent_frame]
@[simp] theorem attentionEvent_inReset (x : Segment) (s : State) : (attentionEvent x s).inReset = s.inReset :=
  by rw [attentionEvent_frame]
@[simp] theorem attentionEvent_host (x : Segment) (s : State) : (attentionEvent x s).host = s.host :=
  by rw [attentionEvent_frame]
@[simp] theorem attentionEvent_ctrl (x : Segment) (s : State) : (attentionEvent x s).ctrl = s.ctrl :=
  by rw [attentionEvent_frame]
@[simp] theorem attentionEvent_watermark (x : Segment) (s : State) : (attentionEvent x s).watermark = s.watermark :=
  by rw [attentionEvent_frame]
@[simp] theorem attentionEvent_cu (x : Segment) (s : State) : (attentionEvent x s).cu = s.cu :=
  by rw [attentionEvent_frame]
@[simp] theorem attentionEvent_sticky (x : Segment) (s : State) : (attentionEvent x s).sticky = s.sticky :=
  by rw [attentionEvent_frame]
@[simp] theorem attentionEvent_intEnable (x : Segment) (s : State) : (attentionEvent x s).intEnable = s.intEnable :=
  by rw [attentionEvent_frame]
@[simp] theorem attentionEvent_bandPending (x : Segment) (s : State) : (attentionEvent x s).bandPending = s.bandPending :=
  by rw [attentionEvent_frame]
@[simp] theorem attentionEvent_limit (x : Segment) (s : State) : (attentionEvent x s).limit = s.limit :=
  by rw [attentionEvent_frame]
@[simp] theorem attentionEvent_collector (x : Segment) (s : State) : (attentionEvent x s).collector = s.collector :=
  by rw [attentionEvent_frame]
@[simp] theorem attentionEvent_targets (x : Segment) (s : State) : (attentionEvent x s).targets = s.targets :=
  by rw [attentionEvent_frame]
@[simp] theorem attentionEvent_segA (x : Segment) (s : State) : (attentionEvent x s).segA = s.segA :=
  by rw [attentionEvent_frame]
@[simp] theorem attentionEvent_segB (x : Segment) (s : State) : (attentionEvent x s).segB = s.segB :=
  by rw [attentionEvent_frame]
@[simp] theorem attentionEvent_queue (x : Segment) (s : State) : (attentionEvent x s).queue = s.queue :=
  by rw [attentionEvent_frame]
@[simp] theorem attentionEvent_port (x : Segment) (s : State) : (attentionEvent x s).port = s.port :=
  by rw [attentionEvent_frame]
@[simp] theorem attentionEvent_mem (x : Segment) (s : State) : (attentionEvent x s).mem = s.mem :=
  by rw [attentionEvent_frame]
@[simp] theorem attentionEvent_pending (x : Segment) (s : State) : (attentionEvent x s).pending = s.pending :=
  by rw [attentionEvent_frame]
@[simp] theorem attentionEvent_freeIndex (x : Segment) (s : State) : (attentionEvent x s).freeIndex = s.freeIndex :=
  by rw [attentionEvent_frame]

/-- Everything startAttention can change. -/
theorem startAttention_frame (x : Segment) (s : State) :
    startAttention x s =
      { s with entries := (startAttention x s).entries, segA := (startAttention x s).segA, segB := (startAttention x s).segB } := by
  apply State.ext <;> first | rfl | (unfold startAttention; dsimp only; split <;> simp)

@[simp] theorem startAttention_elapsed (x : Segment) (s : State) : (startAttention x s).elapsed = s.elapsed :=
  by rw [startAttention_frame]
@[simp] theorem startAttention_inReset (x : Segment) (s : State) : (startAttention x s).inReset = s.inReset :=
  by rw [startAttention_frame]
@[simp] theorem startAttention_host (x : Segment) (s : State) : (startAttention x s).host = s.host :=
  by rw [startAttention_frame]
@[simp] theorem startAttention_ctrl (x : Segment) (s : State) : (startAttention x s).ctrl = s.ctrl :=
  by rw [startAttention_frame]
@[simp] theorem startAttention_watermark (x : Segment) (s : State) : (startAttention x s).watermark = s.watermark :=
  by rw [startAttention_frame]
@[simp] theorem startAttention_cu (x : Segment) (s : State) : (startAttention x s).cu = s.cu :=
  by rw [startAttention_frame]
@[simp] theorem startAttention_sticky (x : Segment) (s : State) : (startAttention x s).sticky = s.sticky :=
  by rw [startAttention_frame]
@[simp] theorem startAttention_intEnable (x : Segment) (s : State) : (startAttention x s).intEnable = s.intEnable :=
  by rw [startAttention_frame]
@[simp] theorem startAttention_bandPending (x : Segment) (s : State) : (startAttention x s).bandPending = s.bandPending :=
  by rw [startAttention_frame]
@[simp] theorem startAttention_limit (x : Segment) (s : State) : (startAttention x s).limit = s.limit :=
  by rw [startAttention_frame]
@[simp] theorem startAttention_collector (x : Segment) (s : State) : (startAttention x s).collector = s.collector :=
  by rw [startAttention_frame]
@[simp] theorem startAttention_targets (x : Segment) (s : State) : (startAttention x s).targets = s.targets :=
  by rw [startAttention_frame]
@[simp] theorem startAttention_queue (x : Segment) (s : State) : (startAttention x s).queue = s.queue :=
  by rw [startAttention_frame]
@[simp] theorem startAttention_port (x : Segment) (s : State) : (startAttention x s).port = s.port :=
  by rw [startAttention_frame]
@[simp] theorem startAttention_mem (x : Segment) (s : State) : (startAttention x s).mem = s.mem :=
  by rw [startAttention_frame]
@[simp] theorem startAttention_pending (x : Segment) (s : State) : (startAttention x s).pending = s.pending :=
  by rw [startAttention_frame]
@[simp] theorem startAttention_freeIndex (x : Segment) (s : State) : (startAttention x s).freeIndex = s.freeIndex :=
  by rw [startAttention_frame]

/-- Everything enterRunning can change. -/
theorem enterRunning_frame (s : State) :
    enterRunning s =
      { s with collector := (enterRunning s).collector, entries := (enterRunning s).entries, targets := (enterRunning s).targets, segA := (enterRunning s).segA, segB := (enterRunning s).segB, limit := (enterRunning s).limit, cu := (enterRunning s).cu, sticky := (enterRunning s).sticky } := by
  apply State.ext <;> simp [enterRunning]

@[simp] theorem enterRunning_elapsed (s : State) : (enterRunning s).elapsed = s.elapsed :=
  by rw [enterRunning_frame]
@[simp] theorem enterRunning_inReset (s : State) : (enterRunning s).inReset = s.inReset :=
  by rw [enterRunning_frame]
@[simp] theorem enterRunning_host (s : State) : (enterRunning s).host = s.host :=
  by rw [enterRunning_frame]
@[simp] theorem enterRunning_ctrl (s : State) : (enterRunning s).ctrl = s.ctrl :=
  by rw [enterRunning_frame]
@[simp] theorem enterRunning_watermark (s : State) : (enterRunning s).watermark = s.watermark :=
  by rw [enterRunning_frame]
@[simp] theorem enterRunning_intEnable (s : State) : (enterRunning s).intEnable = s.intEnable :=
  by rw [enterRunning_frame]
@[simp] theorem enterRunning_bandPending (s : State) : (enterRunning s).bandPending = s.bandPending :=
  by rw [enterRunning_frame]
@[simp] theorem enterRunning_queue (s : State) : (enterRunning s).queue = s.queue :=
  by rw [enterRunning_frame]
@[simp] theorem enterRunning_port (s : State) : (enterRunning s).port = s.port :=
  by rw [enterRunning_frame]
@[simp] theorem enterRunning_mem (s : State) : (enterRunning s).mem = s.mem :=
  by rw [enterRunning_frame]
@[simp] theorem enterRunning_pending (s : State) : (enterRunning s).pending = s.pending :=
  by rw [enterRunning_frame]
@[simp] theorem enterRunning_freeIndex (s : State) : (enterRunning s).freeIndex = s.freeIndex :=
  by rw [enterRunning_frame]

/-- Everything enterStopped can change. -/
theorem enterStopped_frame (s : State) :
    enterStopped s =
      { s with collector := (enterStopped s).collector, cu := (enterStopped s).cu, sticky := (enterStopped s).sticky } := by
  apply State.ext <;> first | rfl | (unfold enterStopped; dsimp only; split <;> simp)

@[simp] theorem enterStopped_elapsed (s : State) : (enterStopped s).elapsed = s.elapsed :=
  by rw [enterStopped_frame]
@[simp] theorem enterStopped_inReset (s : State) : (enterStopped s).inReset = s.inReset :=
  by rw [enterStopped_frame]
@[simp] theorem enterStopped_host (s : State) : (enterStopped s).host = s.host :=
  by rw [enterStopped_frame]
@[simp] theorem enterStopped_ctrl (s : State) : (enterStopped s).ctrl = s.ctrl :=
  by rw [enterStopped_frame]
@[simp] theorem enterStopped_watermark (s : State) : (enterStopped s).watermark = s.watermark :=
  by rw [enterStopped_frame]
@[simp] theorem enterStopped_intEnable (s : State) : (enterStopped s).intEnable = s.intEnable :=
  by rw [enterStopped_frame]
@[simp] theorem enterStopped_bandPending (s : State) : (enterStopped s).bandPending = s.bandPending :=
  by rw [enterStopped_frame]
@[simp] theorem enterStopped_limit (s : State) : (enterStopped s).limit = s.limit :=
  by rw [enterStopped_frame]
@[simp] theorem enterStopped_entries (s : State) : (enterStopped s).entries = s.entries :=
  by rw [enterStopped_frame]
@[simp] theorem enterStopped_targets (s : State) : (enterStopped s).targets = s.targets :=
  by rw [enterStopped_frame]
@[simp] theorem enterStopped_segA (s : State) : (enterStopped s).segA = s.segA :=
  by rw [enterStopped_frame]
@[simp] theorem enterStopped_segB (s : State) : (enterStopped s).segB = s.segB :=
  by rw [enterStopped_frame]
@[simp] theorem enterStopped_queue (s : State) : (enterStopped s).queue = s.queue :=
  by rw [enterStopped_frame]
@[simp] theorem enterStopped_port (s : State) : (enterStopped s).port = s.port :=
  by rw [enterStopped_frame]
@[simp] theorem enterStopped_mem (s : State) : (enterStopped s).mem = s.mem :=
  by rw [enterStopped_frame]
@[simp] theorem enterStopped_pending (s : State) : (enterStopped s).pending = s.pending :=
  by rw [enterStopped_frame]
@[simp] theorem enterStopped_freeIndex (s : State) : (enterStopped s).freeIndex = s.freeIndex :=
  by rw [enterStopped_frame]

/-- Everything takePoll can change. -/
theorem takePoll_frame (x : Segment) (n : EntryNo) (c : Cause) (s : State) :
    takePoll x n c s =
      { s with entries := (takePoll x n c s).entries, segA := (takePoll x n c s).segA, segB := (takePoll x n c s).segB } := by
  apply State.ext <;> simp [takePoll]

@[simp] theorem takePoll_elapsed (x : Segment) (n : EntryNo) (c : Cause) (s : State) : (takePoll x n c s).elapsed = s.elapsed :=
  by rw [takePoll_frame]
@[simp] theorem takePoll_inReset (x : Segment) (n : EntryNo) (c : Cause) (s : State) : (takePoll x n c s).inReset = s.inReset :=
  by rw [takePoll_frame]
@[simp] theorem takePoll_host (x : Segment) (n : EntryNo) (c : Cause) (s : State) : (takePoll x n c s).host = s.host :=
  by rw [takePoll_frame]
@[simp] theorem takePoll_ctrl (x : Segment) (n : EntryNo) (c : Cause) (s : State) : (takePoll x n c s).ctrl = s.ctrl :=
  by rw [takePoll_frame]
@[simp] theorem takePoll_watermark (x : Segment) (n : EntryNo) (c : Cause) (s : State) : (takePoll x n c s).watermark = s.watermark :=
  by rw [takePoll_frame]
@[simp] theorem takePoll_cu (x : Segment) (n : EntryNo) (c : Cause) (s : State) : (takePoll x n c s).cu = s.cu :=
  by rw [takePoll_frame]
@[simp] theorem takePoll_sticky (x : Segment) (n : EntryNo) (c : Cause) (s : State) : (takePoll x n c s).sticky = s.sticky :=
  by rw [takePoll_frame]
@[simp] theorem takePoll_intEnable (x : Segment) (n : EntryNo) (c : Cause) (s : State) : (takePoll x n c s).intEnable = s.intEnable :=
  by rw [takePoll_frame]
@[simp] theorem takePoll_bandPending (x : Segment) (n : EntryNo) (c : Cause) (s : State) : (takePoll x n c s).bandPending = s.bandPending :=
  by rw [takePoll_frame]
@[simp] theorem takePoll_limit (x : Segment) (n : EntryNo) (c : Cause) (s : State) : (takePoll x n c s).limit = s.limit :=
  by rw [takePoll_frame]
@[simp] theorem takePoll_collector (x : Segment) (n : EntryNo) (c : Cause) (s : State) : (takePoll x n c s).collector = s.collector :=
  by rw [takePoll_frame]
@[simp] theorem takePoll_targets (x : Segment) (n : EntryNo) (c : Cause) (s : State) : (takePoll x n c s).targets = s.targets :=
  by rw [takePoll_frame]
@[simp] theorem takePoll_queue (x : Segment) (n : EntryNo) (c : Cause) (s : State) : (takePoll x n c s).queue = s.queue :=
  by rw [takePoll_frame]
@[simp] theorem takePoll_port (x : Segment) (n : EntryNo) (c : Cause) (s : State) : (takePoll x n c s).port = s.port :=
  by rw [takePoll_frame]
@[simp] theorem takePoll_mem (x : Segment) (n : EntryNo) (c : Cause) (s : State) : (takePoll x n c s).mem = s.mem :=
  by rw [takePoll_frame]
@[simp] theorem takePoll_pending (x : Segment) (n : EntryNo) (c : Cause) (s : State) : (takePoll x n c s).pending = s.pending :=
  by rw [takePoll_frame]
@[simp] theorem takePoll_freeIndex (x : Segment) (n : EntryNo) (c : Cause) (s : State) : (takePoll x n c s).freeIndex = s.freeIndex :=
  by rw [takePoll_frame]

/-- Everything takeRaw can change. -/
theorem takeRaw_frame (x : Segment) (s : State) :
    takeRaw x s =
      { s with cu := (takeRaw x s).cu, segA := (takeRaw x s).segA, segB := (takeRaw x s).segB } := by
  apply State.ext <;> first | rfl | (unfold takeRaw; dsimp only; split <;> simp)

@[simp] theorem takeRaw_elapsed (x : Segment) (s : State) : (takeRaw x s).elapsed = s.elapsed :=
  by rw [takeRaw_frame]
@[simp] theorem takeRaw_inReset (x : Segment) (s : State) : (takeRaw x s).inReset = s.inReset :=
  by rw [takeRaw_frame]
@[simp] theorem takeRaw_host (x : Segment) (s : State) : (takeRaw x s).host = s.host :=
  by rw [takeRaw_frame]
@[simp] theorem takeRaw_ctrl (x : Segment) (s : State) : (takeRaw x s).ctrl = s.ctrl :=
  by rw [takeRaw_frame]
@[simp] theorem takeRaw_watermark (x : Segment) (s : State) : (takeRaw x s).watermark = s.watermark :=
  by rw [takeRaw_frame]
@[simp] theorem takeRaw_sticky (x : Segment) (s : State) : (takeRaw x s).sticky = s.sticky :=
  by rw [takeRaw_frame]
@[simp] theorem takeRaw_intEnable (x : Segment) (s : State) : (takeRaw x s).intEnable = s.intEnable :=
  by rw [takeRaw_frame]
@[simp] theorem takeRaw_bandPending (x : Segment) (s : State) : (takeRaw x s).bandPending = s.bandPending :=
  by rw [takeRaw_frame]
@[simp] theorem takeRaw_limit (x : Segment) (s : State) : (takeRaw x s).limit = s.limit :=
  by rw [takeRaw_frame]
@[simp] theorem takeRaw_collector (x : Segment) (s : State) : (takeRaw x s).collector = s.collector :=
  by rw [takeRaw_frame]
@[simp] theorem takeRaw_entries (x : Segment) (s : State) : (takeRaw x s).entries = s.entries :=
  by rw [takeRaw_frame]
@[simp] theorem takeRaw_targets (x : Segment) (s : State) : (takeRaw x s).targets = s.targets :=
  by rw [takeRaw_frame]
@[simp] theorem takeRaw_queue (x : Segment) (s : State) : (takeRaw x s).queue = s.queue :=
  by rw [takeRaw_frame]
@[simp] theorem takeRaw_port (x : Segment) (s : State) : (takeRaw x s).port = s.port :=
  by rw [takeRaw_frame]
@[simp] theorem takeRaw_mem (x : Segment) (s : State) : (takeRaw x s).mem = s.mem :=
  by rw [takeRaw_frame]
@[simp] theorem takeRaw_pending (x : Segment) (s : State) : (takeRaw x s).pending = s.pending :=
  by rw [takeRaw_frame]
@[simp] theorem takeRaw_freeIndex (x : Segment) (s : State) : (takeRaw x s).freeIndex = s.freeIndex :=
  by rw [takeRaw_frame]

/-- Everything withdrawRaw can change. -/
theorem withdrawRaw_frame (x : Segment) (s : State) :
    withdrawRaw x s =
      { s with cu := (withdrawRaw x s).cu, sticky := (withdrawRaw x s).sticky, segA := (withdrawRaw x s).segA, segB := (withdrawRaw x s).segB } := by
  apply State.ext <;> first | rfl | (unfold withdrawRaw; dsimp only; split <;> simp)

@[simp] theorem withdrawRaw_elapsed (x : Segment) (s : State) : (withdrawRaw x s).elapsed = s.elapsed :=
  by rw [withdrawRaw_frame]
@[simp] theorem withdrawRaw_inReset (x : Segment) (s : State) : (withdrawRaw x s).inReset = s.inReset :=
  by rw [withdrawRaw_frame]
@[simp] theorem withdrawRaw_host (x : Segment) (s : State) : (withdrawRaw x s).host = s.host :=
  by rw [withdrawRaw_frame]
@[simp] theorem withdrawRaw_ctrl (x : Segment) (s : State) : (withdrawRaw x s).ctrl = s.ctrl :=
  by rw [withdrawRaw_frame]
@[simp] theorem withdrawRaw_watermark (x : Segment) (s : State) : (withdrawRaw x s).watermark = s.watermark :=
  by rw [withdrawRaw_frame]
@[simp] theorem withdrawRaw_intEnable (x : Segment) (s : State) : (withdrawRaw x s).intEnable = s.intEnable :=
  by rw [withdrawRaw_frame]
@[simp] theorem withdrawRaw_bandPending (x : Segment) (s : State) : (withdrawRaw x s).bandPending = s.bandPending :=
  by rw [withdrawRaw_frame]
@[simp] theorem withdrawRaw_limit (x : Segment) (s : State) : (withdrawRaw x s).limit = s.limit :=
  by rw [withdrawRaw_frame]
@[simp] theorem withdrawRaw_collector (x : Segment) (s : State) : (withdrawRaw x s).collector = s.collector :=
  by rw [withdrawRaw_frame]
@[simp] theorem withdrawRaw_entries (x : Segment) (s : State) : (withdrawRaw x s).entries = s.entries :=
  by rw [withdrawRaw_frame]
@[simp] theorem withdrawRaw_targets (x : Segment) (s : State) : (withdrawRaw x s).targets = s.targets :=
  by rw [withdrawRaw_frame]
@[simp] theorem withdrawRaw_queue (x : Segment) (s : State) : (withdrawRaw x s).queue = s.queue :=
  by rw [withdrawRaw_frame]
@[simp] theorem withdrawRaw_port (x : Segment) (s : State) : (withdrawRaw x s).port = s.port :=
  by rw [withdrawRaw_frame]
@[simp] theorem withdrawRaw_mem (x : Segment) (s : State) : (withdrawRaw x s).mem = s.mem :=
  by rw [withdrawRaw_frame]
@[simp] theorem withdrawRaw_pending (x : Segment) (s : State) : (withdrawRaw x s).pending = s.pending :=
  by rw [withdrawRaw_frame]
@[simp] theorem withdrawRaw_freeIndex (x : Segment) (s : State) : (withdrawRaw x s).freeIndex = s.freeIndex :=
  by rw [withdrawRaw_frame]

/-- Everything recordByteRead can change. -/
theorem recordByteRead_frame (s : State) :
    recordByteRead s =
      { s with port := (recordByteRead s).port, queue := (recordByteRead s).queue } := by
  unfold recordByteRead; split <;> [rfl; (split <;> rfl)]

@[simp] theorem recordByteRead_elapsed (s : State) : (recordByteRead s).elapsed = s.elapsed :=
  by rw [recordByteRead_frame]
@[simp] theorem recordByteRead_inReset (s : State) : (recordByteRead s).inReset = s.inReset :=
  by rw [recordByteRead_frame]
@[simp] theorem recordByteRead_host (s : State) : (recordByteRead s).host = s.host :=
  by rw [recordByteRead_frame]
@[simp] theorem recordByteRead_ctrl (s : State) : (recordByteRead s).ctrl = s.ctrl :=
  by rw [recordByteRead_frame]
@[simp] theorem recordByteRead_watermark (s : State) : (recordByteRead s).watermark = s.watermark :=
  by rw [recordByteRead_frame]
@[simp] theorem recordByteRead_cu (s : State) : (recordByteRead s).cu = s.cu :=
  by rw [recordByteRead_frame]
@[simp] theorem recordByteRead_sticky (s : State) : (recordByteRead s).sticky = s.sticky :=
  by rw [recordByteRead_frame]
@[simp] theorem recordByteRead_intEnable (s : State) : (recordByteRead s).intEnable = s.intEnable :=
  by rw [recordByteRead_frame]
@[simp] theorem recordByteRead_bandPending (s : State) : (recordByteRead s).bandPending = s.bandPending :=
  by rw [recordByteRead_frame]
@[simp] theorem recordByteRead_limit (s : State) : (recordByteRead s).limit = s.limit :=
  by rw [recordByteRead_frame]
@[simp] theorem recordByteRead_collector (s : State) : (recordByteRead s).collector = s.collector :=
  by rw [recordByteRead_frame]
@[simp] theorem recordByteRead_entries (s : State) : (recordByteRead s).entries = s.entries :=
  by rw [recordByteRead_frame]
@[simp] theorem recordByteRead_targets (s : State) : (recordByteRead s).targets = s.targets :=
  by rw [recordByteRead_frame]
@[simp] theorem recordByteRead_segA (s : State) : (recordByteRead s).segA = s.segA :=
  by rw [recordByteRead_frame]
@[simp] theorem recordByteRead_segB (s : State) : (recordByteRead s).segB = s.segB :=
  by rw [recordByteRead_frame]
@[simp] theorem recordByteRead_mem (s : State) : (recordByteRead s).mem = s.mem :=
  by rw [recordByteRead_frame]
@[simp] theorem recordByteRead_pending (s : State) : (recordByteRead s).pending = s.pending :=
  by rw [recordByteRead_frame]
@[simp] theorem recordByteRead_freeIndex (s : State) : (recordByteRead s).freeIndex = s.freeIndex :=
  by rw [recordByteRead_frame]

/-! ### The bus behind a timed-out wait -/

@[simp] theorem LineLevel.lowSince_high (l : LineLevel) (since : Int) : (l.lowSince since).high = false := rfl
@[simp] theorem LineLevel.lowSince_fell (l : LineLevel) (since : Int) : (l.lowSince since).fell = max l.fell since := rfl

/-- A fall that was noted at or after the moment stands. -/
theorem LineLevel.lowSince_of_le (l : LineLevel) (since : Int) (hl : l.high = false) (h : since ≤ l.fell) :
    l.lowSince since = l := by
  cases l; simp_all [LineLevel.lowSince]

/-- What giving up a wait can do to a segment: SDA or SCL is left low, or the STOP has been made (R59). -/
theorem Seg.giveUp_cases (line : LineName) (waited : Nat) (h : HeldTransfer) (inGap : Bool) (limit now : Nat) (g : Seg) :
    (line = .sda ∧ g.giveUp line waited h inGap limit now =
        { g with scl := if inGap = true then g.scl else g.scl.rise
                 sda := g.sda.lowSince ((now : Int) - ((waited + h.lowBefore : Nat) : Int)) })
    ∨ (line = .scl ∧ 2 * limit ≤ waited
        ∧ g.giveUp line waited h inGap limit now =
          { g with scl := g.scl.lowSince ((now : Int) - ((waited + h.lowBefore : Nat) : Int)) })
    ∨ (line = .scl ∧ waited < 2 * limit ∧ limit ≤ h.sdaWait
        ∧ g.giveUp line waited h inGap limit now =
          { g with scl := g.scl.rise, sda := g.sda.lowSince ((now : Int) - ((h.sdaWait + h.lowBefore : Nat) : Int)) })
    ∨ (line = .scl ∧ waited < 2 * limit ∧ h.sdaWait < limit ∧ g.giveUp line waited h inGap limit now = g.ownStop) := by
  cases line with
  | sda => exact .inl ⟨rfl, by simp [Seg.giveUp]⟩
  | scl =>
    by_cases hw : 2 * limit ≤ waited
    · exact .inr (.inl ⟨rfl, hw, by simp [Seg.giveUp, hw]⟩)
    · by_cases hs : limit ≤ h.sdaWait
      · exact .inr (.inr (.inl ⟨rfl, by omega, hs, by simp [Seg.giveUp, hw, hs]⟩))
      · exact .inr (.inr (.inr ⟨rfl, by omega, by omega, by simp [Seg.giveUp, hw, hs]⟩))

/-! ### The lines behind a failed bus clear -/

@[simp] theorem LineLevel.clearFailed_none (l : LineLevel) (rose : Bool) (began now : Nat) :
    l.clearFailed none rose began now = l.rise := rfl

/-- A line that a failed clear leaves low fell last at the latest of its noted fall, the moment the row gives, and, where it
read high in the clear, the clear's beginning (R50). -/
theorem LineLevel.clearFailed_some (l : LineLevel) (k : Nat) (rose : Bool) (began now : Nat) :
    l.clearFailed (some k) rose began now =
      { high := false
        fell := max (if rose = true then max l.fell (began : Int) else l.fell) ((now : Int) - (k : Int)) } := by
  cases rose <;> rfl

end Sys2Proof.Machine
end

