-- ==== Sys2Proof/Laws/Events.lean ====
section
/-! SUPPORT. What the shapes that commands are made of can do: an event of the running part, a byte written at an address,
a command code written to CMD. -/

namespace Sys2Proof.Machine

variable {s t : State} {a : RegAddr} {f : State → State} {code : Byte}

@[simp] theorem whenever_true (f : State → State) (s : State) : whenever true f s = f s := rfl

@[simp] theorem whenever_false (f : State → State) (s : State) : whenever false f s = s := rfl

theorem running_of_not_inReset (h : s.inReset = false) : running s f = .next (f s) := by simp [running, h]

theorem running_of_inReset (h : s.inReset = true) : running s f = .next s := by simp [running, h]

/-- An event of the running part does nothing in a hard reset, and otherwise what its operation says. -/
theorem running_cases (h : running s f = .next t) : (s.inReset = true ∧ t = s) ∨ (s.inReset = false ∧ t = f s) := by
  cases hr : s.inReset
  · rw [running_of_not_inReset hr] at h; cases h; exact .inr ⟨rfl, rfl⟩
  · rw [running_of_inReset hr] at h; cases h; exact .inl ⟨rfl, rfl⟩

theorem State.writing.pointer (h : s.writing a) : s.host.pointer = a := by
  have := h.2
  simp only [State.writesAt, Bool.and_eq_true, beq_iff_eq] at this
  exact this.2

theorem State.writing.framing (h : s.writing a) : s.host.framing = .writeRun := by
  have := h.2
  simp only [State.writesAt, Bool.and_eq_true, beq_iff_eq] at this
  exact this.1

/-- A byte written at a: its effect, and the pointer moves on. -/
theorem writeByte_of_writing (h : s.writing a) : writeByte a f s = .next (advance (f s)) := by
  rw [writeByte, running_of_not_inReset h.1, h.2]; rfl

/-- A byte row does nothing, or is the byte written at its address. -/
theorem writeByte_cases (h : writeByte a f s = .next t) : t = s ∨ (s.writing a ∧ t = advance (f s)) := by
  rcases running_cases h with ⟨-, rfl⟩ | ⟨hr, rfl⟩
  · exact .inl rfl
  · cases hw : s.writesAt a
    · exact .inl rfl
    · exact .inr ⟨⟨hr, hw⟩, rfl⟩

/-- A code written to CMD while READY is taken. -/
theorem command_of_takes (h : s.takes) : command code f s = .next (advance (f (takeCode code s))) := by
  rw [command, writeByte_of_writing h.1]
  simp [State.busy, h.2]

/-- A code written to CMD while BUSY is not taken. -/
theorem command_of_busy {w : Wait} (h : s.writing 0x04#7) (hw : s.cu.wait = some w) :
    command code f s = .next (advance (notTaken s)) := by
  rw [command, writeByte_of_writing h]
  simp [State.busy, hw]

/-- A command row does nothing, or its code is written to CMD: taken when the unit is READY, not taken when it is BUSY. -/
theorem command_cases (h : command code f s = .next t) :
    t = s ∨ (s.takes ∧ t = advance (f (takeCode code s)))
      ∨ (s.writing 0x04#7 ∧ s.cu.wait.isSome = true ∧ t = advance (notTaken s)) := by
  rcases writeByte_cases h with rfl | ⟨hw, rfl⟩
  · exact .inl rfl
  · cases hc : s.cu.wait with
    | none => exact .inr (.inl ⟨⟨hw, hc⟩, by simp [State.busy, hc]⟩)
    | some w => exact .inr (.inr ⟨hw, by simp, by simp [State.busy, hc]⟩)

theorem nextPointer_four : nextPointer 0x04#7 = 0x05#7 := by decide

end Sys2Proof.Machine
end

