-- ==== Sys2Proof/Laws/Memory.lean ====
section
/-! SUPPORT. The storage memory: every operation keeps the canonical form, a read after a write gives the value written,
and a write leaves every other address alone. -/

namespace Sys2Proof.Machine

theorem Memory.wfFrom_mono {lo lo' : Nat} (h : lo' ≤ lo) : ∀ {m : Memory}, Memory.wfFrom lo m = true → Memory.wfFrom lo' m = true
  | [], _ => rfl
  | (k, v) :: m, hm => by
    simp only [Memory.wfFrom, Bool.and_eq_true, decide_eq_true_eq] at hm ⊢
    exact ⟨⟨Nat.le_trans h hm.1.1, hm.1.2⟩, hm.2⟩

/-- An address below everything listed reads 00h. -/
theorem Memory.read_below {lo a : Nat} (h : a < lo) : ∀ {m : Memory}, Memory.wfFrom lo m = true → Memory.read m a = 0
  | [], _ => rfl
  | (k, v) :: m, hm => by
    simp only [Memory.wfFrom, Bool.and_eq_true, decide_eq_true_eq] at hm
    have hk : k ≠ a := by omega
    simp only [Memory.read, hk, if_false]
    exact Memory.read_below (lo := k + 1) (by omega) hm.2

/-- A write keeps the canonical form. -/
theorem Memory.wfFrom_write {lo a : Nat} (ha : lo ≤ a) (v : Byte) :
    ∀ {m : Memory}, Memory.wfFrom lo m = true → Memory.wfFrom lo (Memory.write m a v) = true
  | [], _ => by
    unfold Memory.write
    split <;> simp_all [Memory.wfFrom]
  | (k, w) :: m, hm => by
    simp only [Memory.wfFrom, Bool.and_eq_true, decide_eq_true_eq] at hm
    unfold Memory.write
    by_cases h1 : a < k
    · simp only [h1, if_true]
      split
      · simpa only [Memory.wfFrom, Bool.and_eq_true, decide_eq_true_eq] using hm
      · rename_i hv
        simp only [Memory.wfFrom, Bool.and_eq_true, decide_eq_true_eq]
        exact ⟨⟨ha, by simpa using hv⟩, ⟨by omega, hm.1.2⟩, hm.2⟩
    · by_cases h2 : a = k
      · subst h2
        simp only [Nat.lt_irrefl, if_false, if_true]
        split
        · exact Memory.wfFrom_mono (by omega) hm.2
        · rename_i hv
          simp only [Memory.wfFrom, Bool.and_eq_true, decide_eq_true_eq]
          exact ⟨⟨ha, by simpa using hv⟩, hm.2⟩
      · simp only [h1, h2, if_false, Memory.wfFrom, Bool.and_eq_true, decide_eq_true_eq]
        exact ⟨hm.1, Memory.wfFrom_write (by omega) v hm.2⟩

theorem Memory.wf_write {m : Memory} (h : Memory.wf m = true) (a : Nat) (v : Byte) :
    Memory.wf (Memory.write m a v) = true :=
  Memory.wfFrom_write (Nat.zero_le a) v h

theorem Memory.wf_writeBytes : ∀ (vs : List Byte) {m : Memory} (a : Nat), Memory.wf m = true →
    Memory.wf (Memory.writeBytes m a vs) = true
  | [], _, _, h => h
  | v :: vs, _, a, h => Memory.wf_writeBytes vs (a + 1) (Memory.wf_write h a v)

/-- A read after a write: the value written at its address, and any other address as before. -/
theorem Memory.read_write {lo : Nat} (a b : Nat) (v : Byte) :
    ∀ {m : Memory}, Memory.wfFrom lo m = true → Memory.read (Memory.write m a v) b = if b = a then v else Memory.read m b
  | [], _ => by
    by_cases hb : b = a
    · subst hb
      unfold Memory.write
      split <;> simp_all [Memory.read]
    · have : ¬ a = b := fun h => hb h.symm
      unfold Memory.write
      split <;> simp [Memory.read, this]
  | (k, w) :: m, hm => by
    simp only [Memory.wfFrom, Bool.and_eq_true, decide_eq_true_eq] at hm
    unfold Memory.write
    by_cases h1 : a < k
    · simp only [h1, if_true]
      split
      · rename_i hv
        by_cases hb : b = a
        · subst hb
          have hkb : k ≠ b := by omega
          simp only [Memory.read, hkb, if_false, if_true, hv]
          exact Memory.read_below (lo := k + 1) (by omega) hm.2
        · simp [hb]
      · by_cases hb : b = a
        · subst hb; simp [Memory.read]
        · have : ¬ a = b := fun h => hb h.symm
          simp [Memory.read, hb, this]
    · by_cases h2 : a = k
      · subst h2
        simp only [Nat.lt_irrefl, if_false, if_true]
        split
        · rename_i hv
          by_cases hb : b = a
          · subst hb
            simp only [if_true, hv]
            exact Memory.read_below (lo := b + 1) (by omega) hm.2
          · have : ¬ a = b := fun h => hb h.symm
            simp [Memory.read, hb, this]
        · by_cases hb : b = a
          · subst hb; simp [Memory.read]
          · have : ¬ a = b := fun h => hb h.symm
            simp [Memory.read, hb, this]
      · simp only [h1, h2, if_false, Memory.read]
        by_cases hk : k = b
        · subst hk
          have : ¬ k = a := fun h => h2 h.symm
          simp [this]
        · simp only [hk, if_false]
          exact Memory.read_write a b v hm.2

/-- A read after a run of writes: the byte written at each of the addresses, and any other address as before. -/
theorem Memory.read_writeBytes (b : Nat) : ∀ (vs : List Byte) {m : Memory} (a : Nat), Memory.wf m = true →
    Memory.read (Memory.writeBytes m a vs) b =
      if a ≤ b ∧ b < a + vs.length then vs.getD (b - a) 0 else Memory.read m b
  | [], m, a, _ => by
    have : ¬ (a ≤ b ∧ b < a + ([] : List Byte).length) := by simp
    rw [if_neg this]; rfl
  | v :: vs, m, a, h => by
    rw [Memory.writeBytes, Memory.read_writeBytes b vs (a + 1) (Memory.wf_write h a v), Memory.read_write a b v h]
    by_cases hb : b = a
    · subst hb
      simp
    · by_cases h1 : a + 1 ≤ b ∧ b < a + 1 + vs.length
      · have h2 : a ≤ b ∧ b < a + (v :: vs).length := by simp only [List.length_cons]; omega
        obtain ⟨k, hk⟩ : ∃ k, b - a = k + 1 := ⟨b - a - 1, by omega⟩
        have hk' : b - (a + 1) = k := by omega
        rw [if_pos h1, if_pos h2, hk, hk']; rfl
      · have h2 : ¬ (a ≤ b ∧ b < a + (v :: vs).length) := by simp only [List.length_cons]; omega
        rw [if_neg h1, if_neg h2, if_neg hb]

/-- What a write lists: the address written, or what was listed before. -/
theorem Memory.mem_write {a : Nat} {v : Byte} {c : Host.Cell} :
    ∀ {m : Memory}, c ∈ Memory.write m a v → c = (a, v) ∨ c ∈ m
  | [], h => by
    unfold Memory.write at h
    split at h <;> simp_all
  | (k, w) :: m, h => by
    unfold Memory.write at h
    split at h
    · split at h
      · exact .inr h
      · simp only [List.mem_cons] at h ⊢; tauto
    · split at h
      · split at h
        · exact .inr (List.mem_cons_of_mem _ h)
        · simp only [List.mem_cons] at h ⊢; tauto
      · simp only [List.mem_cons] at h ⊢
        rcases h with h | h
        · exact .inr (.inl h)
        · rcases Memory.mem_write h with h | h
          · exact .inl h
          · exact .inr (.inr h)

end Sys2Proof.Machine
end

