-- ==== Sys2Proof/Laws/PerInstr.lean ====
section
/-! SUPPORT. One lemma per command, for the host's case split: the byte a command writes to CMD, and that this byte is one
of the thirteen command codes exactly when the command is not UNKNOWN (R147, R148). -/

namespace Sys2Proof.Laws

/-- The byte a command writes to CMD, for the commands that do (R147, R148). -/
def cmdByte : Instr → Option Byte
  | .commandByte _ => none
  | .transactionEnd => none
  | .softReset _ => none
  | .softResetEffect => none
  | .hardReset => none
  | .hardResetEnd => none
  | .queueDataByteStart => none
  | .queueDataByteComplete => none
  | .snapshotLatch _ => none
  | .watermarkLowWrite _ => none
  | .watermarkHighWrite _ => none
  | .intFlagsWrite _ => none
  | .bandPendingWrite _ => none
  | .intEnableWrite _ => none
  | .evict _ => none
  | .irqPushPull _ => none
  | .limitActiveHigh _ => none
  | .registerWrite _ => none
  | .start => some 0x01#8
  | .collectorEnterRunning => none
  | .stop => some 0x02#8
  | .collectorEnterStopped => none
  | .entryLoad => some 0x03#8
  | .entryFetch => some 0x04#8
  | .targetLoad => some 0x05#8
  | .targetFetch => some 0x06#8
  | .deferredLoadEnd _ _ => none
  | .pollNow => some 0x07#8
  | .targetRelease => some 0x08#8
  | .targetHold => some 0x09#8
  | .rawTransfer => some 0x0A#8
  | .mark => some 0x0B#8
  | .flush => some 0x0C#8
  | .abort => some 0x0F#8
  | .unknown code => some code
  | .tick => none
  | .backoffExpiry _ => none
  | .dueTimeEvent _ => none
  | .attnFallingEdge _ => none
  | .attnRearm _ => none
  | .selectionOccasion _ => none
  | .busFree _ _ => none
  | .busStopSeen _ => none
  | .foreignStartSeen _ => none
  | .busBusyTimeout _ => none
  | .busClear _ => none
  | .busClearSuccess _ => none
  | .busClearFail _ _ => none
  | .stretchTimeout _ _ _ _ => none
  | .arbitrationLoss _ => none
  | .completion _ _ => none
  | .rawTransferCompletion _ _ => none
  | .stampCounterAdvance => none
  | .transactionOpen => none
  | .lineFall _ _ => none

/-- The command is UNKNOWN. -/
def isUnknown : Instr → Bool
  | .commandByte _ => false
  | .transactionEnd => false
  | .softReset _ => false
  | .softResetEffect => false
  | .hardReset => false
  | .hardResetEnd => false
  | .queueDataByteStart => false
  | .queueDataByteComplete => false
  | .snapshotLatch _ => false
  | .watermarkLowWrite _ => false
  | .watermarkHighWrite _ => false
  | .intFlagsWrite _ => false
  | .bandPendingWrite _ => false
  | .intEnableWrite _ => false
  | .evict _ => false
  | .irqPushPull _ => false
  | .limitActiveHigh _ => false
  | .registerWrite _ => false
  | .start => false
  | .collectorEnterRunning => false
  | .stop => false
  | .collectorEnterStopped => false
  | .entryLoad => false
  | .entryFetch => false
  | .targetLoad => false
  | .targetFetch => false
  | .deferredLoadEnd _ _ => false
  | .pollNow => false
  | .targetRelease => false
  | .targetHold => false
  | .rawTransfer => false
  | .mark => false
  | .flush => false
  | .abort => false
  | .unknown _ => true
  | .tick => false
  | .backoffExpiry _ => false
  | .dueTimeEvent _ => false
  | .attnFallingEdge _ => false
  | .attnRearm _ => false
  | .selectionOccasion _ => false
  | .busFree _ _ => false
  | .busStopSeen _ => false
  | .foreignStartSeen _ => false
  | .busBusyTimeout _ => false
  | .busClear _ => false
  | .busClearSuccess _ => false
  | .busClearFail _ _ => false
  | .stretchTimeout _ _ _ _ => false
  | .arbitrationLoss _ => false
  | .completion _ _ => false
  | .rawTransferCompletion _ _ => false
  | .stampCounterAdvance => false
  | .transactionOpen => false
  | .lineFall _ _ => false

/-- A well-formed command that writes to CMD writes one of the thirteen codes, unless it is UNKNOWN, and then none of
them. -/
def CommandClass.Statement (i : Instr) : Prop :=
  i.wellFormed = true → ∀ c, cmdByte i = some c → commandCodes.contains c = !isUnknown i

theorem CommandClass.commandByte (b : Byte) : CommandClass.Statement (.commandByte b) := by
  intro _ c e
  cases e

theorem CommandClass.transactionEnd : CommandClass.Statement .transactionEnd := by
  intro _ c e
  cases e

theorem CommandClass.softReset (v : Byte) : CommandClass.Statement (.softReset v) := by
  intro _ c e
  cases e

theorem CommandClass.softResetEffect : CommandClass.Statement .softResetEffect := by
  intro _ c e
  cases e

theorem CommandClass.hardReset : CommandClass.Statement .hardReset := by
  intro _ c e
  cases e

theorem CommandClass.hardResetEnd : CommandClass.Statement .hardResetEnd := by
  intro _ c e
  cases e

theorem CommandClass.queueDataByteStart : CommandClass.Statement .queueDataByteStart := by
  intro _ c e
  cases e

theorem CommandClass.queueDataByteComplete : CommandClass.Statement .queueDataByteComplete := by
  intro _ c e
  cases e

theorem CommandClass.snapshotLatch (c : ReadByte) : CommandClass.Statement (.snapshotLatch c) := by
  intro _ c e
  cases e

theorem CommandClass.watermarkLowWrite (v : Byte) : CommandClass.Statement (.watermarkLowWrite v) := by
  intro _ c e
  cases e

theorem CommandClass.watermarkHighWrite (v : Byte) : CommandClass.Statement (.watermarkHighWrite v) := by
  intro _ c e
  cases e

theorem CommandClass.intFlagsWrite (v : Byte) : CommandClass.Statement (.intFlagsWrite v) := by
  intro _ c e
  cases e

theorem CommandClass.bandPendingWrite (v : Byte) : CommandClass.Statement (.bandPendingWrite v) := by
  intro _ c e
  cases e

theorem CommandClass.intEnableWrite (v : Byte) : CommandClass.Statement (.intEnableWrite v) := by
  intro _ c e
  cases e

theorem CommandClass.evict (v : Byte) : CommandClass.Statement (.evict v) := by
  intro _ c e
  cases e

theorem CommandClass.irqPushPull (v : Byte) : CommandClass.Statement (.irqPushPull v) := by
  intro _ c e
  cases e

theorem CommandClass.limitActiveHigh (v : Byte) : CommandClass.Statement (.limitActiveHigh v) := by
  intro _ c e
  cases e

theorem CommandClass.registerWrite (v : Byte) : CommandClass.Statement (.registerWrite v) := by
  intro _ c e
  cases e

theorem CommandClass.start : CommandClass.Statement .start := by
  intro _ c e
  cases e
  rfl

theorem CommandClass.collectorEnterRunning : CommandClass.Statement .collectorEnterRunning := by
  intro _ c e
  cases e

theorem CommandClass.stop : CommandClass.Statement .stop := by
  intro _ c e
  cases e
  rfl

theorem CommandClass.collectorEnterStopped : CommandClass.Statement .collectorEnterStopped := by
  intro _ c e
  cases e

theorem CommandClass.entryLoad : CommandClass.Statement .entryLoad := by
  intro _ c e
  cases e
  rfl

theorem CommandClass.entryFetch : CommandClass.Statement .entryFetch := by
  intro _ c e
  cases e
  rfl

theorem CommandClass.targetLoad : CommandClass.Statement .targetLoad := by
  intro _ c e
  cases e
  rfl

theorem CommandClass.targetFetch : CommandClass.Statement .targetFetch := by
  intro _ c e
  cases e
  rfl

theorem CommandClass.deferredLoadEnd (x : Segment) (w : WireResponse) : CommandClass.Statement (.deferredLoadEnd x w) := by
  intro _ c e
  cases e

theorem CommandClass.pollNow : CommandClass.Statement .pollNow := by
  intro _ c e
  cases e
  rfl

theorem CommandClass.targetRelease : CommandClass.Statement .targetRelease := by
  intro _ c e
  cases e
  rfl

theorem CommandClass.targetHold : CommandClass.Statement .targetHold := by
  intro _ c e
  cases e
  rfl

theorem CommandClass.rawTransfer : CommandClass.Statement .rawTransfer := by
  intro _ c e
  cases e
  rfl

theorem CommandClass.mark : CommandClass.Statement .mark := by
  intro _ c e
  cases e
  rfl

theorem CommandClass.flush : CommandClass.Statement .flush := by
  intro _ c e
  cases e
  rfl

theorem CommandClass.abort : CommandClass.Statement .abort := by
  intro _ c e
  cases e
  rfl

theorem CommandClass.unknown (code : Byte) : CommandClass.Statement (.unknown code) := by
  intro h c e
  cases e
  simpa [isUnknown, Instr.wellFormed] using h

theorem CommandClass.tick : CommandClass.Statement .tick := by
  intro _ c e
  cases e

theorem CommandClass.backoffExpiry (t : TargetNo) : CommandClass.Statement (.backoffExpiry t) := by
  intro _ c e
  cases e

theorem CommandClass.dueTimeEvent (n : EntryNo) : CommandClass.Statement (.dueTimeEvent n) := by
  intro _ c e
  cases e

theorem CommandClass.attnFallingEdge (x : Segment) : CommandClass.Statement (.attnFallingEdge x) := by
  intro _ c e
  cases e

theorem CommandClass.attnRearm (x : Segment) : CommandClass.Statement (.attnRearm x) := by
  intro _ c e
  cases e

theorem CommandClass.selectionOccasion (x : Segment) : CommandClass.Statement (.selectionOccasion x) := by
  intro _ c e
  cases e

theorem CommandClass.busFree (x : Segment) (lines : Lines) : CommandClass.Statement (.busFree x lines) := by
  intro _ c e
  cases e

theorem CommandClass.busStopSeen (x : Segment) : CommandClass.Statement (.busStopSeen x) := by
  intro _ c e
  cases e

theorem CommandClass.foreignStartSeen (x : Segment) : CommandClass.Statement (.foreignStartSeen x) := by
  intro _ c e
  cases e

theorem CommandClass.busBusyTimeout (x : Segment) : CommandClass.Statement (.busBusyTimeout x) := by
  intro _ c e
  cases e

theorem CommandClass.busClear (x : Segment) : CommandClass.Statement (.busClear x) := by
  intro _ c e
  cases e

theorem CommandClass.busClearSuccess (r : ClearRun) :
    CommandClass.Statement (.busClearSuccess r) := by
  intro _ c e
  cases e

theorem CommandClass.busClearFail (r : ClearRun) (left : LeftLow) :
    CommandClass.Statement (.busClearFail r left) := by
  intro _ c e
  cases e

theorem CommandClass.stretchTimeout (x : Segment) (line : LineName) (waited : Nat) (h : HeldTransfer) :
    CommandClass.Statement (.stretchTimeout x line waited h) := by
  intro _ c e
  cases e

theorem CommandClass.arbitrationLoss (x : Segment) : CommandClass.Statement (.arbitrationLoss x) := by
  intro _ c e
  cases e

theorem CommandClass.completion (x : Segment) (w : WireResponse) : CommandClass.Statement (.completion x w) := by
  intro _ c e
  cases e

theorem CommandClass.rawTransferCompletion (x : Segment) (w : WireResponse) : CommandClass.Statement (.rawTransferCompletion x w) := by
  intro _ c e
  cases e

theorem CommandClass.stampCounterAdvance : CommandClass.Statement .stampCounterAdvance := by
  intro _ c e
  cases e

theorem CommandClass.transactionOpen : CommandClass.Statement .transactionOpen := by
  intro _ c e
  cases e

theorem CommandClass.lineFall (x : Segment) (line : LineName) : CommandClass.Statement (.lineFall x line) := by
  intro _ c e
  cases e

end Sys2Proof.Laws
end

