-- ==== Sys2Proof/Tests/Slice0.lean ====
section
/-! SUPPORT. Small tests: the smoke test of WellFormed, worked values of the manual, one step each, and a witness for the
hypotheses of every statement that has some. -/

namespace Sys2Proof.Tests

open Sys2Proof Sys2Proof.Machine

/-! ### Helpers -/

/-- The state a command leads to; the state itself where it leads to none. -/
def after (c : Instr) (s : State) : State :=
  match exec c s with
  | .next t => t
  | .fault _ => s
  | .refused _ => s

/-- Inside a transaction of the given direction, the pointer at a. -/
def run (f : Framing) (a : RegAddr) (s : State) : State :=
  { s with host := { s.host with csnLow := true, framing := f, pointer := a } }

/-- A command code can be written, with this argument. -/
def ready (arg : Byte) (s : State) : State := { run .writeRun 0x04#7 s with cu := { s.cu with arg := arg } }

/-- The Command Unit waits. -/
def waiting (w : Wait) (s : State) : State := { s with cu := { s.cu with wait := some w } }

/-- Target 0: segment A, address 48h, a STOP between the two parts of a poll, threshold 2, backoff 10 to 80. -/
def aTarget : TargetDef :=
  { TargetDef.zero with enabled := true, stopBetween := true, address := 0x48#7, threshold := 2, baseBackoff := 10, maxBackoff := 80 }

/-- An entry of target 0: one byte at pointer 05h, tier 1, period 4, in the attention class too. -/
def anEntry : EntryDef :=
  { EntryDef.zero with length := 1, pointer := 0x05#8, pointerPresent := true, tier := 1, period := 4, attention := true }

/-- Target 0 and entry 0 are loaded. -/
def loaded : State :=
  { State.reset with
    targets := State.reset.targets.set 0 (Target.loaded aTarget)
    entries := State.reset.entries.set 0 { Entry.empty with defined := true, d := anEntry } }

/-- The collector runs. -/
def live : State := { loaded with collector := .running }

/-- Target 0 in another health. -/
def withHealth (h : Health) (k remaining : Nat) (s : State) : State :=
  s.setTarget 0 { Target.loaded aTarget with health := h, failures := k, remaining := remaining }

/-- The poll of entry 0. -/
def aPoll : PollWork := live.pollWork 0 .scheduled

/-- Segment A's engine. -/
def engineA (f : Engine → Engine) (s : State) : State := s.modSeg .a fun g => g.withEngine f

/-- Entry 0 is being polled, in this stage. -/
def polling (stage : Stage) : State :=
  engineA (fun e => { e with state := .busy, work := some (.poll aPoll), stage := stage })
    (live.setEntry 0 { live.entry 0 with inFlight := true })

/-- A raw transfer: one byte written and two read at 20h on segment A, with a STOP between. -/
def aRaw : RawParams := { segment := .a, address := 0x20#7, write := [0xA5#8], readCount := 2, check := false, stopBetween := true }

/-- The raw transfer is on segment A. -/
def rawing (st : RawStage) : State :=
  engineA (fun e => { e with state := .busy, work := some (.raw aRaw), stage := .onWire })
    (waiting (.raw st aRaw) State.reset)

/-- Every byte acknowledged, these bytes read. -/
def wire (reads : List Byte) : WireResponse := { acks := List.replicate 18 true, reads := reads }

/-- A Mark record of epoch 0 behind its Time record. -/
def oneMark : Queue := (Queue.reset.admitOne false false 0x00000064#32 (.mark 0x2A#8)).queue

/-! ### WellFormed refuses -/

theorem test_unknown_with_command_code : Instr.wellFormed (.unknown 0x0F#8) = false := by decide
theorem test_unknown_zero_is_fine : Instr.wellFormed (.unknown 0x00#8) = true := by decide
theorem test_soft_reset_without_bit0 : Instr.wellFormed (.softReset 0x0E#8) = false := by decide
theorem test_completion_too_many_acks :
    Instr.wellFormed (.completion .a { acks := List.replicate 19 true, reads := [] }) = false := by decide
theorem test_raw_completion_too_many_reads :
    Instr.wellFormed (.rawTransferCompletion .b { acks := [], reads := List.replicate 18 0 }) = false := by decide
theorem test_deferred_load_end_too_many_reads :
    Instr.wellFormed (.deferredLoadEnd .b { acks := [], reads := List.replicate 18 0 }) = false := by decide
theorem test_stretch_timeout_too_many_acks :
    Instr.wellFormed (.stretchTimeout .a .scl 3000 { acks := List.replicate 19 true, sdaWait := 0, lowBefore := 0 }) = false := by decide
theorem test_bus_clear_success_too_many_waits :
    Instr.wellFormed (.busClearSuccess { segment := .a, sclWaits := List.replicate 11 0, sda := [] }) = false := by decide
theorem test_bus_clear_fail_too_many_looks :
    Instr.wellFormed (.busClearFail { segment := .a, sclWaits := [], sda := List.replicate 10 false }
      { scl := none, sda := some 1 }) = false := by decide
theorem test_bus_clear_fail_leaves_no_line_low :
    Instr.wellFormed (.busClearFail { segment := .a, sclWaits := [], sda := [] } { scl := none, sda := none }) = false := by
  decide

/-! ### The queue of commands -/

theorem test_no_word_spells_a_command : decodeTableWord 8 0x00 = none ∧ decodeTableWord 16 0xFFFF = none := by decide
theorem test_front_command_runs : (match step { State.reset with pending := [.stampCounterAdvance, .abort] } with
    | .next t => t.elapsed == 1 && t.pending == [.abort] | .fault _ => false | .refused _ => false) = true := by decide

/-! ### Worked values of the manual -/

/-- R23's two examples. -/
theorem test_reached_across_the_wrap : reached 0xFFFFFFF0#32 0x00000005#32 = true ∧ reached 0x00000005#32 0xFFFFFFF0#32 = false := by
  decide

/-- R91's example: data bytes 0Ch 80h. -/
theorem test_value_of_two_bytes :
    EntryDef.value { EntryDef.zero with wide := true, highFirst := true } [0x0C#8, 0x80#8] = 3200
      ∧ EntryDef.value { EntryDef.zero with wide := true } [0x0C#8, 0x80#8] = 32780
      ∧ EntryDef.value { EntryDef.zero with wide := true, signed := true } [0x0C#8, 0x80#8] = -32756 := by decide

/-- R101's example: unsigned, high limit 50, hysteresis 80: the high return threshold is 0. -/
theorem test_return_threshold_is_limited :
    EntryDef.highReturn { EntryDef.zero with highLimit := 50, hysteresis := 80 } = 0 := by decide

/-- R171's example: FFh written to 17h alone sets 2047. -/
theorem test_watermark_is_limited :
    (after (.watermarkHighWrite 0xFF#8) (run .writeRun 0x17#7 State.reset)).watermark = 2047 := by decide

/-- The register after each byte of the transaction of section 3.4.2. -/
theorem test_crc8_byte_by_byte :
    crcByte 0x00#8 0x80#8 = 0x89#8 ∧ crcByte 0x89#8 0x02#8 = 0xB8#8 ∧ crcByte 0xB8#8 0x81#8 = 0xAF#8
      ∧ crcByte 0xAF#8 0x0C#8 = 0x60#8 ∧ crcByte 0x60#8 0x80#8 = 0xAE#8 := by decide

/-- R176: a Mark record is C3h, tag, low stamp; the Time record in front of it is 82h and the epoch. -/
theorem test_mark_behind_its_time_record :
    oneMark.records.flatMap Record.bytes = [0x82#8, 0x00#8, 0x00#8, 0xC3#8, 0x2A#8, 0x64#8, 0x00#8] := by decide

/-! ### One step each -/

theorem test_mark_answers_ok : (after .mark (ready 0x2A#8 State.reset)).resultByte = 0x01#8 := by decide
theorem test_flush_empties : (after .flush (ready 0 { State.reset with queue := oneMark })).queue = Queue.reset := by decide
theorem test_start_refused_while_running : (after .start (ready 0 live)).resultByte = 0x04#8 := by decide
theorem test_poll_now_range : (after .pollNow (ready 32 live)).resultByte = 0x02#8 := by decide
theorem test_poll_now_appends : (after .pollNow (ready 0 live)).segA.oneShot = [0] := by decide
theorem test_busy_refuses : (after .flush (ready 0 (waiting .start State.reset))).sticky.cmdref = true := by decide
theorem test_hold_keeps_the_count :
    ((after .targetHold (ready 0 (withHealth .suspect 1 0 live))).target 0).health = .held
      ∧ ((after .targetHold (ready 0 (withHealth .suspect 1 0 live))).target 0).failures = 1 := by decide
theorem test_release_restores :
    ((after .targetRelease (ready 0 (withHealth .held 2 0 live))).target 0).health = .active := by decide
theorem test_second_failure_quarantines :
    ((withHealth .suspect 1 0 live).target 0).judge .addrNack false
      = ({ Target.loaded aTarget with health := .quarantined, failures := 2, remaining := 10, current := 10 }, .quarantined) := by
  decide
theorem test_due_time_joins :
    ((after (.dueTimeEvent 0) live).entry 0).due = some (.scheduled 0) ∧ ((after (.dueTimeEvent 0) live).entry 0).nextDue = 4 := by
  decide
theorem test_completion_leaves_flight :
    ((after (.completion .a (wire [0x37#8])) (polling .onWire)).entry 0).inFlight = false
      ∧ (after (.completion .a (wire [0x37#8])) (polling .onWire)).queue.fill = 9 := by decide
theorem test_raw_bytes_are_stored :
    Memory.read (after (.rawTransferCompletion .a (wire [0x11#8, 0x22#8])) (rawing .onSegment)).mem 0x61 = 0x22#8 := by decide
theorem test_aborted_raw_stores_nothing :
    (after (.rawTransferCompletion .a (wire [0x11#8, 0x22#8])) (rawing .aborted)).mem = []
      ∧ (after (.rawTransferCompletion .a (wire [0x11#8])) (rawing .aborted)).cu.result = 0x08#8 := by decide

/-- R21: the hundredth unit completes the first tick. -/
theorem test_hundredth_unit_completes_a_tick :
    (after .stampCounterAdvance { State.reset with elapsed := 98 }).tickCount = 0
      ∧ (after .stampCounterAdvance { State.reset with elapsed := 99 }).tickCount = 1 := by decide

/-- R170: the low byte is shifted out while the counter is latched; the byte behind it is the latch's. -/
theorem test_snapshot_and_the_byte_behind_it :
    (after (.snapshotLatch .stamp) (run .readRun 0x10#7 { State.reset with elapsed := 0x0201 })).sdo = some 0x01#8
      ∧ (after (.snapshotLatch .plain)
          { after (.snapshotLatch .stamp) (run .readRun 0x10#7 { State.reset with elapsed := 0x0201 }) with
            elapsed := 0x0400 }).sdo = some 0x02#8 := by decide

/-- R50: a line that reads low already does not fall again. -/
theorem test_low_line_keeps_its_moment :
    ((after (.lineFall .a .scl) { after (.lineFall .a .scl) State.reset with elapsed := 7 }).seg .a).scl.fell = 0 := by decide

/-- R51: the STOP of the engine's own transaction clears the indication. -/
theorem test_own_stop_clears_bus_busy :
    ((after (.completion .a (wire [0x37#8])) (after (.foreignStartSeen .a) (polling .onWire))).engine .a).busBusy = false := by
  decide

/-- R59: SCL that stays low past a further stretch limit is left to the next free check, with no row of its own fall. -/
theorem test_abandoned_stop_leaves_scl_low :
    ((after (.stretchTimeout .a .scl 5000 { acks := [], sdaWait := 0, lowBefore := 0 })
        { polling .onWire with elapsed := 9000 }).seg .a).scl = { high := false, fell := 4000 }
      ∧ ((after (.stretchTimeout .a .scl 4999 { acks := [], sdaWait := 0, lowBefore := 0 })
        { polling .onWire with elapsed := 9000 }).seg .a).scl.high = true := by decide

/-- R50, R59: what was noted of SCL before the wait does not count, and a fall noted within the wait does. -/
theorem test_abandoned_stop_dates_scl :
    (fun fell => ((after (.stretchTimeout .a .scl 5000 { acks := [], sdaWait := 0, lowBefore := 0 })
        { (after (.lineFall .a .scl) { polling .onWire with elapsed := fell }) with elapsed := 9000 }).seg .a).scl.fell)
      <$> [1000, 6000] = [4000, 6000] := by decide

/-- R50, R59: SDA held at the STOP behind a not-acknowledge counts from the fall noted behind that not-acknowledge, and not
from one noted before it. -/
theorem test_held_sda_keeps_the_noted_fall :
    (fun fell => ((after (.stretchTimeout .a .sda 2500 { acks := [true, false], sdaWait := 0, lowBefore := 100 })
        { (after (.lineFall .a .sda) { polling .onWire with elapsed := fell }) with elapsed := 9000 }).seg .a).sda.fell)
      <$> [1000, 6400, 6450] = [6400, 6400, 6450] := by decide

/-- R50, R54: the engine's own intermediate STOP leaves a stretched SCL high. -/
theorem test_intermediate_stop_leaves_scl_high :
    ((after (.busStopSeen .a) (after (.lineFall .a .scl) (polling .onWire))).seg .a).scl.high = true := by decide

/-- R50, R59: SCL that comes high for the attempted STOP reads high, noted as low before or not, where SDA is held as well. -/
theorem test_attempted_stop_finds_scl_high :
    ((after (.stretchTimeout .a .scl 4999 { acks := [], sdaWait := 0, lowBefore := 0 })
        { after (.lineFall .a .scl) (polling .onWire) with elapsed := 9000 }).seg .a).scl.high = true
      ∧ (fun t => (t.scl.high, t.sda)) ((after (.stretchTimeout .a .scl 4999 { acks := [], sdaWait := 2500, lowBefore := 0 })
        { after (.lineFall .a .scl) (polling .onWire) with elapsed := 9000 }).seg .a)
          = (true, { high := false, fell := 6500 }) := by decide

/-- R54: in multi-master mode a foreign START behind the intermediate STOP is a loss of arbitration. -/
theorem test_foreign_start_in_the_gap_is_a_loss :
    ((after (.foreignStartSeen .a) (after (.busStopSeen .a)
        (engineA (fun e => { e with latched := { e.latched with multiMaster := true } }) (polling .onWire)))).engine .a).retries
      = 1 := by decide

/-! ### Witnesses: states and operands that meet the hypotheses of the statements, clause by clause -/

theorem witness_StepRunsTheFrontCommand : State.reset.pending = [] := rfl

theorem witness_EveryCommandAnswersANextState : Instr.tick ≠ .hardResetEnd := by decide

/-- A poll is on the wire, a tick waits: the state of the witnesses of the laws. -/
def lawful : State := { polling .onWire with pending := [.tick] }

theorem witness_StorageLawIsKept :
    State.memoryLaw { lawful with mem := [(0x30, 1#8), (0x6F, 0xFF#8)] }
      ∧ ∃ t, step { lawful with mem := [(0x30, 1#8), (0x6F, 0xFF#8)] } = .next t :=
  ⟨⟨by decide, by decide⟩, _, rfl⟩

theorem witness_LimitFollowsTheStableStates :
    lawful.limitLawHolds ∧ (∀ c ∈ lawful.pending.head?, movesLimit c = false) ∧ ∃ t, step lawful = .next t :=
  ⟨by unfold State.limitLawHolds; decide, by decide, _, rfl⟩

theorem witness_RecordQueueLawIsKept :
    Queue.law oneMark ∧ ∃ t, step { lawful with queue := oneMark } = .next t := by
  refine ⟨⟨by decide, ?_, by decide, by decide, by decide⟩, _, rfl⟩
  intro r hr
  have : oneMark.records = [.time 0, .data (.mark 0x2A#8) 0x64#16] := by decide
  rw [this] at hr
  rcases List.mem_cons.1 hr with rfl | hr
  · trivial
  · rcases List.mem_cons.1 hr with rfl | hr
    · show (4 : Nat) ≤ 13; omega
    · cases hr

theorem witness_EpochLawIsKept : Queue.epochLaw oneMark ∧ ∃ t, step { lawful with queue := oneMark } = .next t :=
  ⟨by unfold Queue.epochLaw; decide, _, rfl⟩

/-- A record is being read: its first byte is out. -/
def reading : State :=
  { run .readRun 0x1C#7 State.reset with
    queue := oneMark
    port := { cursor := 0, pinned := true }
    host := { HostPort.reset with csnLow := true, framing := .readRun, pointer := 0x1C#7, burstOpen := true
                                  byteOut := some { value := 0x82#8, source := .record } } }

theorem witness_ReadPortLawIsKept :
    reading.readPortLaw ∧ ∃ t, step { reading with pending := [.queueDataByteComplete] } = .next t :=
  ⟨by unfold State.readPortLaw; decide, _, rfl⟩

theorem lawful_target (t : TargetNo) : lawful.target t = if t = 0 then Target.loaded aTarget else Target.empty := by
  revert t; decide

theorem lawful_wait : lawful.cu.wait = none := rfl

theorem witness_TargetTableLawIsKept : lawful.targetTableLaw ∧ ∃ t, step lawful = .next t := by
  refine ⟨⟨?_, ?_, ?_⟩, _, rfl⟩
  · unfold TargetDef.sound; decide
  · unfold TargetDef.apart; decide
  · rw [lawful_wait]; intro w hw; cases hw

theorem lawful_work : lawful.workLaw := by
  refine ⟨?_, ?_, ?_, ?_⟩
  · refine ⟨?_, ?_, ?_, ?_, ?_, ?_, ?_, ?_⟩
    · show (_ ∧ _) ∧ _ ∧ _ ∧ _; decide
    · decide
    · intro p hp; have : p = aPoll := by injection hp with h; exact h.symm
      subst this; unfold State.pollBelongs; decide
    · intro r hr; cases hr
    · decide
    · decide
    · decide
    · decide
  · refine ⟨?_, ?_, ?_, ?_, ?_, ?_, ?_, ?_⟩
    · show (_ ∧ _) ∧ _ ∧ _ ∧ _; decide
    · decide
    · intro p hp; cases hp
    · intro r hr; cases hr
    · decide
    · decide
    · decide
    · decide
  · unfold State.waitingLaw; decide
  · refine ⟨by decide, by decide, ?_, ?_, ?_⟩
    · intro r hr; cases hr
    · intro r hr; cases hr
    · intro w hw; cases hw

theorem witness_WorkLawIsKept : lawful.workLaw ∧ ∃ t, step lawful = .next t := ⟨lawful_work, _, rfl⟩

theorem lawful_tables : lawful.targetTableLaw := witness_TargetTableLawIsKept.1

theorem witness_EntryTableLawIsKept :
    lawful.workLaw ∧ lawful.entryTableLaw ∧ ∃ t, step lawful = .next t := by
  refine ⟨lawful_work, ⟨?_, ?_⟩, _, rfl⟩
  · unfold Entry.law EntryDef.sound; decide
  · rw [lawful_wait]; intro w hw; cases hw

theorem witness_HealthLawIsKept :
    lawful.workLaw ∧ lawful.targetTableLaw ∧ lawful.healthLaw ∧ ∃ t, step lawful = .next t := by
  refine ⟨lawful_work, lawful_tables, ?_, _, rfl⟩
  intro t
  rw [lawful_target t]
  split
  · exact ⟨by decide, by decide, rfl, rfl⟩
  · exact ⟨by decide, by decide, rfl, rfl⟩

/-! #### Transactions, resets, register accesses -/

/-- CSN low, awaiting the command byte. -/
def opened : State := run .awaitingCommand 0 State.reset

theorem witness_TransactionFraming :
    (State.reset.inReset = false ∧ State.reset.host.csnLow = false)
      ∧ (opened.inReset = false ∧ opened.host.framing = .awaitingCommand)
      ∧ opened.host.csnLow = true ∧ opened.host.resetRequested = false := by decide

/-- A soft reset is requested. -/
def requested : State := after (.softReset 0x01#8) (run .writeRun 0x02#7 live)

theorem witness_SoftResetTakesEffect : requested.host.csnLow = true ∧ requested.host.resetRequested = true := by decide

/-- In a hard reset, SCL_A low. -/
def held : State := after .hardReset (after (.lineFall .a .scl) live)

theorem witness_HardResetAndItsEnd :
    held.inReset = true ∧ (held.seg .a).scl.high = false ∧ (held.seg .a).sda.high = true := by decide

theorem witness_HardResetIgnoresCommands :
    held.inReset = true ∧ actsInReset .tick = false ∧ (∃ t, exec .hardReset live = .next t)
      ∧ { held with pending := [.lineFall .b .sda] }.heldInReset
      ∧ ∃ t, step { held with pending := [.lineFall .b .sda] } = .next t :=
  ⟨by decide, by decide, ⟨_, rfl⟩, fun _ => rfl, _, rfl⟩

/-- A byte can be written at a. -/
theorem run_writing (a : RegAddr) (s : State) (h : s.inReset = false) : (run .writeRun a s).writing a :=
  ⟨h, by simp [State.writesAt, run]⟩

theorem witness_CtrlByteTakesEffect : (run .writeRun 0x02#7 live).writing 0x02#7 := run_writing _ _ rfl

theorem witness_WatermarkIsWrittenInTwoBytes :
    (∃ t, exec .hardReset live = .next t) ∧ (requested.host.csnLow = true ∧ requested.host.resetRequested = true)
      ∧ (run .writeRun 0x16#7 live).writing 0x16#7
      ∧ ((run .writeRun 0x17#7 live).writing 0x17#7 ∧ 256 * (0x07#8).toNat + (run .writeRun 0x17#7 live).host.heldLow.toNat ≤ 2047
          ∧ 2047 < 256 * (0x08#8).toNat + (run .writeRun 0x17#7 live).host.heldLow.toNat) :=
  ⟨⟨_, rfl⟩, by decide, run_writing _ _ rfl, run_writing _ _ rfl, by decide, by decide⟩

theorem witness_WrittenOnesClearStickyBits :
    (run .writeRun 0x08#7 live).writing 0x08#7
      ∧ ((run .writeRun 0x0C#7 live).inReset = false ∧ (run .writeRun 0x0C#7 live).host.framing = .writeRun
          ∧ (run .writeRun 0x0C#7 live).host.pointer = 0x0C#7 + BitVec.ofNat 7 0)
      ∧ (run .writeRun 0x0F#7 live).host.pointer = 0x0C#7 + BitVec.ofNat 7 3 :=
  ⟨run_writing _ _ rfl, by decide, by decide⟩

theorem witness_IntEnableReplacesAllEnables :
    (run .writeRun 0x09#7 live).writing 0x09#7 ∧ (∃ t, exec .hardReset live = .next t)
      ∧ requested.host.csnLow = true ∧ requested.host.resetRequested = true :=
  ⟨run_writing _ _ rfl, ⟨_, rfl⟩, by decide, by decide⟩

theorem witness_RegisterWriteReadsBack :
    live.memoryLaw ∧ ∀ a ∈ [0x00#7, 0x05#7, 0x0A#7, 0x1C#7, 0x20#7, 0x26#7, 0x30#7, 0x6F#7, 0x7F#7],
      (run .writeRun a live).inReset = false ∧ (run .writeRun a live).host.framing = .writeRun
        ∧ ownWriteRow (run .writeRun a live).host.pointer.toNat = false :=
  ⟨⟨by decide, by decide⟩, by decide⟩

theorem witness_SnapshotLatchesHoldTheirCounters :
    (∃ t, exec .hardReset live = .next t) ∧ (requested.host.csnLow = true ∧ requested.host.resetRequested = true)
      ∧ (live.inReset = false ∧ (run .readRun 0x10#7 live).readsAt 0x10#7 = true
          ∧ (run .readRun 0x11#7 live).readsAt 0x14#7 = true ∧ (run .readRun 0x16#7 live).readsAt 0x18#7 = true)
      ∧ movesLatch .tick = false ∧ movesByteOut .tick = false ∧ ∃ t, exec .tick live = .next t :=
  ⟨⟨_, rfl⟩, by decide, by decide, by decide, by decide, _, rfl⟩

/-- The byte of a register whose reading has no effect is being shifted out. -/
def plainByte (a : RegAddr) : State := after (.snapshotLatch .plain) (run .readRun a live)

theorem witness_QueueDataByteStartAndCompletion :
    ((run .readRun 0x1C#7 live).inReset = false ∧ (run .readRun 0x1C#7 live).readsAt 0x1C#7 = true
        ∧ (run .readRun 0x1C#7 live).queue.records = [])
      ∧ (run .readRun 0x1C#7 { live with queue := oneMark }).queue.records = .time 0 :: [.data (.mark 0x2A#8) 0x64#16]
      ∧ (after .queueDataByteStart (run .readRun 0x1C#7 live)).host.byteOut = some { value := 0x00#8, source := .emptyMarker }
      ∧ (reading.host.byteOut = some { value := 0x82#8, source := .record } ∧ reading.port.cursor + 1 < (Record.time 0).size)
      ∧ { reading.port with cursor := 2 }.cursor + 1 = (Record.time 0).size
      ∧ ((run .readRun 0x0F#7 live).host.framing = .readRun ∧ (run .readRun 0x0F#7 live).host.byteOut = none
          ∧ (run .readRun 0x0F#7 live).host.csnLow = true)
      ∧ ((plainByte 0x7F#7).host.framing = .readRun
          ∧ (plainByte 0x7F#7).host.byteOut = some { value := 0x00#8, source := .register }
          ∧ (plainByte 0x7F#7).host.pointer + 1 = 0x00#7 ∧ (plainByte 0x7F#7).host.pointer ≠ 0x1C#7) := by decide

theorem witness_BurstDeliversEveryRecordInOrder :
    (run .readRun 0x1C#7 { live with queue := oneMark }).inReset = false
      ∧ (run .readRun 0x1C#7 { live with queue := oneMark }).host.framing = .readRun
      ∧ (run .readRun 0x1C#7 { live with queue := oneMark }).host.byteOut = none
      ∧ (run .readRun 0x1C#7 { live with queue := oneMark }).host.pointer = 0x1C#7
      ∧ (run .readRun 0x1C#7 { live with queue := oneMark }).port = { cursor := 0, pinned := false } := by decide

theorem witness_RecordsHaveTheirByteFormat :
    Record.size (.data (.sample 0 .scheduled false false 0 (List.replicate 8 0)) 0) ≤ 13
      ∧ (1 ≤ [0x00#8].length ∧ [0x00#8].length ≤ 8) ∧ (15 : Nat) ≤ 15 ∧ (65535 : Nat) ≤ 65535
      ∧ ((Entry.report { Entry.empty with d := { anEntry with mode := .mean }, meanHeld := 1 } 5 [5#8]).2
          = some (true, [0x02#8, 0x00#8])) := by decide

/-- The image of entry 0's definition. -/
def anImage : Nat → Byte := fun k => anEntry.bytes.getD k 0

theorem witness_ImagesDecodeToTheirDefinitions :
    anEntry.sound ∧ imageLength anImage ≠ 0 ∧ entryLoadCode anImage = 0 :=
  ⟨by unfold EntryDef.sound; decide, by decide, by decide⟩

/-! #### The Command Unit -/

theorem ready_takes (arg : Byte) (s : State) (h : s.inReset = false) (hw : s.cu.wait = none) : (ready arg s).takes :=
  ⟨⟨h, by simp [State.writesAt, ready, run]⟩, hw⟩

theorem ready_writing (arg : Byte) (s : State) (h : s.inReset = false) : (ready arg s).writing 0x04#7 :=
  ⟨h, by simp [State.writesAt, ready, run]⟩

theorem witness_BusyUnitTakesNoOtherCode :
    (ready 0 (waiting .stop live)).writing 0x04#7 ∧ (ready 0 (waiting .stop live)).cu.wait = some .stop
      ∧ Instr.mark ∈ codeCommands ∧ commandCodes.contains 0x0D#8 = false :=
  ⟨ready_writing _ _ rfl, by decide, by decide, by decide⟩

theorem witness_UnknownCodeCompletesWithUnknown :
    ((ready 0 live).writing 0x04#7 ∧ commandCodes.contains 0x00#8 = false ∧ (ready 0 live).cu.wait = none)
      ∧ (ready 0 (waiting .start loaded)).writing 0x04#7 ∧ commandCodes.contains 0xFF#8 = false
      ∧ (ready 0 (waiting .start loaded)).busy = true :=
  ⟨⟨ready_writing _ _ rfl, by decide, by decide⟩, ready_writing _ _ rfl, by decide, by decide⟩

theorem witness_FetchCopiesIntoTheImage :
    ((ready 32 live).takes ∧ 31 < (ready 32 live).cu.arg.toNat) ∧ ((ready 16 live).takes ∧ 15 < (ready 16 live).cu.arg.toNat)
      ∧ ((ready 31 live).takes ∧ (ready 31 live).memoryLaw ∧ (ready 31 live).cu.arg.toNat = (31 : EntryNo).val)
      ∧ ((ready 15 live).takes ∧ (ready 15 live).memoryLaw ∧ (ready 15 live).cu.arg.toNat = (15 : TargetNo).val)
      ∧ ((ready 0 (waiting .stop live)).writing 0x04#7 ∧ (ready 0 (waiting .stop live)).cu.wait = some .stop)
      ∧ ((∀ r ∈ (live.entry 0).run, r.2 ≤ 15) ∧ (live.entry 0).overrun ≤ 15 ∧ (live.entry 0).meanHeld ≤ 255)
      ∧ (live.target 0).failures ≤ 255 ∧ (live.target 0).remaining ≤ 65535 :=
  ⟨⟨ready_takes _ _ rfl rfl, by decide⟩, ⟨ready_takes _ _ rfl rfl, by decide⟩,
   ⟨ready_takes _ _ rfl rfl, ⟨by decide, by decide⟩, by decide⟩, ⟨ready_takes _ _ rfl rfl, ⟨by decide, by decide⟩, by decide⟩,
   ⟨ready_writing _ _ rfl, by decide⟩, by decide, by decide⟩

/-- The images and raw registers hold these bytes. -/
def withMem (m : Memory) (s : State) : State := { s with mem := m }

/-- R155's condition for refusing POLL_NOW with STATE. -/
def refusesPoll (s : State) (n : EntryNo) : Bool :=
  let g := s.target (s.entry n).d.target
  decide (s.collector ≠ .running ∨ (s.entry n).defined = false ∨ g.d.enabled = false ∨ g.health = .quarantined
    ∨ g.health = .held ∨ (s.engine g.d.segment).state = .faulted)

theorem witness_RefusedCommandsChangeNothingElse :
    ((ready 0 live).takes ∧ (ready 0 live).collector ≠ .stopped) ∧ ((ready 0 loaded).takes ∧ (ready 0 loaded).collector ≠ .running)
      ∧ 31 < (ready 32 live).cu.arg.toNat ∧ 15 < (ready 16 live).cu.arg.toNat
      ∧ ((ready 31 (withMem [(0x30, 16#8), (0x32, 1#8)] live)).cu.arg.toNat ≤ 31
          ∧ entryLoadCode (ready 31 (withMem [(0x30, 16#8), (0x32, 1#8)] live)).entryImageByte ≠ 0)
      ∧ ((ready 0 (withMem [(0x4A, 0xFF#8)] live)).cu.arg.toNat = (0 : TargetNo).val
          ∧ targetCode (targetDefOf (ready 0 (withMem [(0x4A, 0xFF#8)] live)).targetImageByte) false ≠ 0)
      ∧ (targetCode (targetDefOf (ready 0 (withMem [(0x4B, 0x01#8)] live)).targetImageByte)
            ((ready 0 (withMem [(0x4B, 0x01#8)] live)).addressClash 0
              (targetDefOf (ready 0 (withMem [(0x4B, 0x01#8)] live)).targetImageByte)) = 0
          ∧ (ready 0 (withMem [(0x4B, 0x01#8)] live)).collector = .running
          ∧ (targetDefOf (ready 0 (withMem [(0x4B, 0x01#8)] live)).targetImageByte).segment
              ≠ ((ready 0 (withMem [(0x4B, 0x01#8)] live)).target 0).d.segment)
      ∧ ((ready 1 live).target 1).d.enabled = false
      ∧ refusesPoll (ready 1 live) 1 = true
      ∧ (refusesPoll (ready 0 (live.modSeg .a fun g => { g with oneShot := [1, 2, 3, 4] })) 0 = false
          ∧ 4 ≤ ((ready 0 (live.modSeg .a fun g => { g with oneShot := [1, 2, 3, 4] })).seg .a).oneShot.length)
      ∧ (refusesPoll (ready 0 (live.modSeg .a fun g => { g with oneShot := [1, 2, 0] })) 0 = false
          ∧ ((ready 0 (live.modSeg .a fun g => { g with oneShot := [1, 2, 0] })).seg .a).oneShot.length < 4
          ∧ (ready 0 (live.modSeg .a fun g => { g with oneShot := [1, 2, 0] })).inOneShot 0 = true)
      ∧ 16 < ((ready 0 (withMem [(0x59, 17#8)] live)).rawByte 1).toNat
      ∧ (((ready 0 (withMem [(0x59, 16#8), (0x5A, 17#8)] live)).rawByte 1).toNat ≤ 16
          ∧ 16 < ((ready 0 (withMem [(0x59, 16#8), (0x5A, 17#8)] live)).rawByte 2).toNat)
      ∧ ((ready 0 (withMem [(0x5A, 16#8)] (engineA (fun e => { e with state := .faulted }) live))).rawByte 2).toNat ≤ 16
      ∧ ((ready 0 (engineA (fun e => { e with state := .faulted }) live)).engine .a).state = .faulted
      ∧ ((anImage 2).extractLsb' 0 4).toNat ≠ 0 ∧ aTarget.enabled = true :=
  ⟨⟨ready_takes _ _ rfl rfl, by decide⟩, ⟨ready_takes _ _ rfl rfl, by decide⟩, by decide, by decide, by decide, by decide,
   by decide, by decide, by decide, by decide, by decide, by decide, by decide, by decide, by decide, by decide, by decide⟩

theorem witness_LoadsApplyOrAreDeferred :
    ((ready 31 live).takes ∧ (ready 31 live).cu.arg.toNat = (31 : EntryNo).val
        ∧ entryLoadCode (ready 31 live).entryImageByte = 0 ∧ ((ready 31 live).entry 31).inFlight = false)
      ∧ ((ready 0 (polling .onWire)).takes ∧ entryLoadCode (ready 0 (polling .onWire)).entryImageByte = 0
          ∧ ((ready 0 (polling .onWire)).entry 0).inFlight = true)
      ∧ ((ready 15 live).takes ∧ (ready 15 live).cu.arg.toNat = (15 : TargetNo).val
          ∧ targetCode (targetDefOf (ready 15 live).targetImageByte)
              ((ready 15 live).addressClash 15 (targetDefOf (ready 15 live).targetImageByte)) = 0
          ∧ ¬ ((ready 15 live).collector = .running
                ∧ (targetDefOf (ready 15 live).targetImageByte).segment ≠ ((ready 15 live).target 15).d.segment)
          ∧ (ready 15 live).targetInFlight 15 = false)
      ∧ (ready 0 (polling .onWire)).targetInFlight 0 = true :=
  ⟨⟨ready_takes _ _ rfl rfl, by decide, by decide, by decide⟩, ⟨ready_takes _ _ rfl rfl, by decide, by decide⟩,
   ⟨ready_takes _ _ rfl rfl, by decide, by decide, by decide, by decide⟩, by decide⟩

theorem witness_StartAndTheEntryIntoRunning :
    ((ready 0 loaded).takes ∧ (ready 0 loaded).collector = .stopped ∧ (ready 0 loaded).segA.linesHigh = true
        ∧ (ready 0 loaded).segB.linesHigh = true)
      ∧ ¬ ((ready 0 (after (.lineFall .b .sda) loaded)).segA.linesHigh = true
            ∧ (ready 0 (after (.lineFall .b .sda) loaded)).segB.linesHigh = true)
      ∧ (waiting .start loaded).inReset = false ∧ (waiting .start loaded).cu.wait = some .start
      ∧ (waiting .start loaded).segA.preparing = false ∧ (waiting .start loaded).segB.preparing = false :=
  ⟨⟨ready_takes _ _ rfl rfl, by decide, by decide, by decide⟩, by decide, by decide, by decide, by decide, by decide⟩

/-- STOP is being carried out, with nothing left to drain. -/
def stopping : State := waiting .stop { loaded with collector := .stopping }

theorem witness_StopDrainsAndEnds :
    ((ready 0 live).takes ∧ (ready 0 live).collector = .running ∧ (ready 0 live).drained = true)
      ∧ ((ready 0 (polling .onWire)).takes ∧ (ready 0 (polling .onWire)).collector = .running
          ∧ (ready 0 (polling .onWire)).drained = false)
      ∧ stopping.inReset = false ∧ stopping.collector = .stopping ∧ stopping.drained = true
      ∧ stopping.cu.wait = some .stop :=
  ⟨⟨ready_takes _ _ rfl rfl, by decide, by decide⟩, ⟨ready_takes _ _ rfl rfl, by decide, by decide⟩, by decide⟩

theorem witness_PollNowAppendsItsRequest :
    (ready 0 live).takes ∧ (ready 0 live).cu.arg.toNat = (0 : EntryNo).val ∧ (ready 0 live).collector = .running
      ∧ ((ready 0 live).entry 0).defined = true ∧ ((ready 0 live).target ((ready 0 live).entry 0).d.target).d.enabled = true
      ∧ ((ready 0 live).target ((ready 0 live).entry 0).d.target).health ≠ .quarantined
      ∧ ((ready 0 live).target ((ready 0 live).entry 0).d.target).health ≠ .held
      ∧ ((ready 0 live).engine ((ready 0 live).entrySegment 0)).state ≠ .faulted
      ∧ ((ready 0 live).seg ((ready 0 live).entrySegment 0)).oneShot.length < 4
      ∧ (0 : EntryNo) ∉ ((ready 0 live).seg ((ready 0 live).entrySegment 0)).oneShot :=
  ⟨ready_takes _ _ rfl rfl, by decide, by decide, by decide, by decide, by decide, by decide, by decide, by decide, by decide⟩

theorem witness_HoldAndReleaseOfATarget :
    ((ready 0 live).takes ∧ (ready 0 live).cu.arg.toNat = (0 : TargetNo).val ∧ ((ready 0 live).target 0).d.enabled = true
        ∧ ((ready 0 live).target 0).health = .active)
      ∧ ((ready 0 (withHealth .held 1 0 live)).takes ∧ ((ready 0 (withHealth .held 1 0 live)).target 0).d.enabled = true
          ∧ ((ready 0 (withHealth .held 1 0 live)).target 0).health = .held)
      ∧ ((ready 0 (withHealth .probing 2 0 live)).target 0).health ≠ .held
      ∧ ((ready 0 (withHealth .probing 2 0 live)).target 0).health ≠ .active :=
  ⟨⟨ready_takes _ _ rfl rfl, by decide, by decide, by decide⟩, ⟨ready_takes _ _ rfl rfl, by decide, by decide⟩, by decide, by decide⟩

theorem witness_RawTransferBecomesPending :
    (ready 0 (withMem [(0x59, 16#8), (0x5A, 16#8)] State.reset)).takes
      ∧ ((ready 0 (withMem [(0x59, 16#8), (0x5A, 16#8)] State.reset)).rawByte 1).toNat = 16
      ∧ ((ready 0 (withMem [(0x59, 16#8), (0x5A, 16#8)] State.reset)).rawByte 2).toNat = 16
      ∧ ((ready 0 (withMem [(0x59, 16#8), (0x5A, 16#8)] State.reset)).engine
          (ready 0 (withMem [(0x59, 16#8), (0x5A, 16#8)] State.reset)).rawParams.segment).state ≠ .faulted :=
  ⟨ready_takes _ _ rfl rfl, by decide, by decide, by decide⟩

theorem witness_MarkAndFlushActOnTheQueue : (ready 0x2A#8 live).takes := ready_takes _ _ rfl rfl

theorem witness_AbortByWaitReason :
    ((ready 0 live).writing 0x04#7 ∧ (ready 0 live).cu.wait = none)
      ∧ ((ready 0 stopping).writing 0x04#7 ∧ (ready 0 stopping).cu.wait = some .stop)
      ∧ (ready 0 (waiting .start loaded)).cu.wait = some .start
      ∧ ((ready 0 (waiting (.entryLoad 0 none) (polling .onWire))).writing 0x04#7
          ∧ (ready 0 (waiting (.entryLoad 0 none) (polling .onWire))).cu.wait = some (.entryLoad 0 none))
      ∧ (ready 0 (waiting (.targetLoad 0 aTarget) (polling .onWire))).cu.wait = some (.targetLoad 0 aTarget)
      ∧ (ready 0 (waiting (.raw .pending aRaw) live)).cu.wait = some (.raw .pending aRaw)
      ∧ (ready 0 (rawing .onSegment)).cu.wait = some (.raw .onSegment aRaw)
      ∧ (ready 0 (rawing .aborted)).cu.wait = some (.raw .aborted aRaw) :=
  ⟨⟨ready_writing _ _ rfl, by decide⟩, ⟨ready_writing _ _ rfl, by decide⟩, by decide, ⟨ready_writing _ _ rfl, by decide⟩,
   by decide, by decide, by decide, by decide⟩

/-! #### Time, due times, attention, the arbiters -/

theorem witness_TimeAdvancesAndQuarantinesExpire :
    (live.inReset = false ∧ (live.elapsed + 1) % 100 ≠ 0) ∧ ({ live with elapsed := 99 }.elapsed + 1) % 100 = 0
      ∧ ((withHealth .quarantined 2 0 live).target 0).health = .quarantined
      ∧ ((withHealth .quarantined 2 0 live).target 0).remaining = 0 := by decide

theorem witness_DueTimesAreComparedModulo :
    ((1 : Nat) ≤ 2 ^ 31 ∧ (2 ^ 31 : Nat) ≤ 2 ^ 31 ∧ (2 ^ 31 - 1 : Nat) < 2 ^ 31)
      ∧ reached (live.entry 0).nextDue live.tickCount = true := by decide

theorem witness_DueTimeEventSkipsOverrunsOrJoins :
    (live.inReset = false ∧ live.collector = .running ∧ (live.entry 0).defined = true ∧ (live.entry 0).d.tier ≠ 0
        ∧ reached (live.entry 0).nextDue live.tickCount = true)
      ∧ ((withHealth .held 0 0 live).target ((withHealth .held 0 0 live).entry 0).d.target).health = .held
      ∧ (live.engine (live.target (live.entry 0).d.target).d.segment).state ≠ .faulted
      ∧ (live.target (live.entry 0).d.target).d.enabled = true ∧ (live.target (live.entry 0).d.target).health = .active
      ∧ (live.entry 0).due = none
      ∧ (((after (.dueTimeEvent 0) live).setEntry 0 { (after (.dueTimeEvent 0) live).entry 0 with nextDue := 0 }).entry 0).due.isSome
          = true := by decide

/-- ATTN_A is enabled. -/
def attentive : State := live.modSeg .a fun g => { g with attnEnable := true }

theorem witness_AttentionEdges :
    (attentive.inReset = false ∧ (attentive.seg .a).attnHigh = true ∧ (attentive.seg .a).attnArmed = true
        ∧ attentive.collector = .running ∧ (attentive.seg .a).attnEnable = true ∧ (attentive.engine .a).state ≠ .faulted
        ∧ attentive.answersAttention .a 0)
      ∧ ¬ attentive.answersAttention .a 31 :=
  ⟨⟨by decide, by decide, by decide, by decide, by decide, by decide, by unfold State.answersAttention; decide⟩,
   by unfold State.answersAttention; decide⟩

/-- Entry 0 waits in the Due List, all joins made. -/
def due : State := after (.dueTimeEvent 0) live

/-- A raw transfer is pending on segment A. -/
def rawWaits (s : State) : State := (waiting (.raw .pending aRaw) s).modSeg .a fun g => { g with rawPending := true }

theorem witness_SelectionHandsWorkToTheEngine :
    (due.inReset = false ∧ due.free .a = true ∧ due.joinsMade = true ∧ due.choose .a = some (.poll 0 .scheduled)
        ∧ due.entrySegment 0 = .a)
      ∧ (due.free .b = true ∧ due.choose .b = none)
      ∧ ((rawWaits due).free .a = true ∧ (rawWaits due).joinsMade = true ∧ ((rawWaits due).seg .a).rawPending = true
          ∧ (rawWaits due).cu.wait = some (.raw .pending aRaw))
      ∧ (rawWaits State.reset).free .a = true ∧ (rawWaits State.reset).joinsMade = true
      ∧ ((rawWaits State.reset).seg .a).rawPending = true := by decide

theorem witness_ArbiterChoosesByRank :
    ((rawWaits due).seg .a).rawPending = true
      ∧ ((State.reset.seg .a).rawPending = false ∧ State.reset.collector = .stopped)
      ∧ ((due.seg .a).rawPending = false ∧ due.collector ≠ .stopped ∧ (due.seg .a).oneShot = []
          ∧ (∀ n, ¬ (due.entrySegment n = .a ∧ (due.entry n).due = some .attention))
          ∧ due.entrySegment 0 = .a ∧ (due.entry 0).due = some (.scheduled 0) ∧ reached 0 due.tickCount = true)
      ∧ ((after .pollNow (ready 0 live)).seg .a).oneShot = 0 :: []
      ∧ ((after (.attnFallingEdge .a) attentive).entry 0).due = some .attention
      ∧ (∀ n, (live.entry n).due = none) := by decide

/-! #### The Segment Engines -/

/-- Entry 0 is being polled in multi-master mode, the bus-free limit 35 ms after time 0. -/
def contended (stage : Stage) (retries : Nat) : State :=
  engineA (fun e => { e with latched := { e.latched with multiMaster := true }, busBusy := true, retries := retries })
    { polling stage with elapsed := 3500 }

/-- Segment A is FAULTED. -/
def faulted : State := engineA (fun e => { e with state := .faulted }) live

theorem witness_LinesAndOtherMasters :
    ((live.seg .a).scl.high = true ∧ ((after (.lineFall .a .sda) live).seg .a).sda.high = false)
      ∧ (live.inReset = false ∧ (live.engine .a).state ≠ .faulted ∧ (live.engine .a).stage ≠ .stopGap)
      ∧ ((contended .stopGap 1).inReset = false ∧ ((contended .stopGap 1).engine .a).state ≠ .faulted
          ∧ ((contended .stopGap 1).engine .a).stage = .stopGap ∧ ((contended .stopGap 1).engine .a).latched.multiMaster = true
          ∧ ((contended .stopGap 1).engine .a).work ≠ none)
      ∧ (((contended .freeCheck 0).engine .a).stage = .freeCheck
          ∧ ((contended .freeCheck 0).engine .a).latched.multiMaster = true
          ∧ ((contended .freeCheck 0).engine .a).busBusy = true
          ∧ ((contended .freeCheck 0).engine .a).waitSince + 100 * ((contended .freeCheck 0).engine .a).latched.busFree
              ≤ (contended .freeCheck 0).elapsed)
      ∧ ((contended .arbWait 1).engine .a).stage = .arbWait
      ∧ (faulted.inReset = false ∧ (faulted.engine .a).state = .faulted) := by decide

/-- A line of segment A has been low for the bus-free limit. -/
def stuck (l : LineName) : State := { (after (.lineFall .a l) (polling .freeCheck)) with elapsed := 3500 }

/-- A bus clear of segment A with this many pulses, with the longest waits on SCL below the stretch limit of 25 ms. -/
def pulsed (n : Nat) : ClearRun :=
  { segment := .a, sclWaits := List.replicate (n + 1) 2499, sda := List.replicate n false }

/-- The bus of segment A is being cleared. -/
def clearing (s : State) : State := engineA (fun e => { e with state := .clearing, stage := .none }) s

theorem witness_BusClearStartsAndSucceeds :
    ((stuck .scl).inReset = false ∧ ((stuck .scl).engine .a).stage = .freeCheck ∧ ((stuck .scl).seg .a).scl.high = false
        ∧ ((stuck .scl).seg .a).scl.fell + ((100 * ((stuck .scl).engine .a).latched.busFree : Nat) : Int)
            ≤ ((stuck .scl).elapsed : Int))
      ∧ (((stuck .sda).seg .a).sda.high = false
          ∧ ((stuck .sda).seg .a).sda.fell + ((100 * ((stuck .sda).engine .a).latched.busFree : Nat) : Int)
              ≤ ((stuck .sda).elapsed : Int))
      ∧ ((clearing (stuck .scl)).inReset = false ∧ ((clearing (stuck .scl)).engine .a).state = .clearing)
      ∧ ((∀ i, i < 9 → (pulsed 9).sda.getD i true = false) ∧ (∀ i, i ≤ 9 → (pulsed 9).sclWaits.getD i 0
          < 100 * ((clearing (stuck .scl)).engine .a).latched.stretch))
      ∧ ((pulsed 0).sda.getD 0 true = true ∧ (∀ i, i ≤ 0 → (pulsed 0).sclWaits.getD i 0
          < 100 * ((clearing (stuck .scl)).engine .a).latched.stretch))
      ∧ 100 * ((clearing (stuck .scl)).engine .a).latched.stretch
          ≤ ([2500] : List Nat).getD 0 0 := by decide

/-- Segment A's bus clear began at 3500 and fails at 5000, with the lines left low so. -/
def failedClear (r : ClearRun) (left : LeftLow) (s : State) : Seg :=
  (after (.busClearFail r left) { s with elapsed := 5000 }).seg .a

/-- R50: SDA that a clear finds high and that falls in it counts from that fall, whatever was noted before the clear. -/
theorem test_failed_clear_dates_sda :
    (fun k => (failedClear (pulsed 0) { scl := none, sda := some k }
        (after (.busClear .a) (stuck .sda))).sda.fell) <$> [200, 4000] = [4800, 3500]
      ∧ (failedClear (pulsed 9) { scl := none, sda := some 5000 } (after (.busClear .a) (stuck .sda))).sda.fell = 0 := by
  decide

/-- R50: a fall that LINE_FALL notes after BUS_FREE inside the clear stands. -/
theorem test_failed_clear_keeps_the_noted_fall :
    (fun k => (failedClear (pulsed 0) { scl := none, sda := some k } (after (.lineFall .a .sda)
        { after (.busFree .a .sda) (after (.busClear .a) (stuck .sda)) with elapsed := 4900 })).sda.fell) <$> [100, 300]
      = [4900, 4900] := by decide

/-- R50, R63: SCL held at its first release has been low since it fell before the clear. -/
theorem test_failed_clear_dates_scl :
    (failedClear { segment := .a, sclWaits := [2500], sda := [] } { scl := some 5000, sda := none }
        (after (.busClear .a) (stuck .scl))).scl = { high := false, fell := 0 } := by decide

theorem witness_BusClearFailureFaultsTheSegment :
    ((clearing (stuck .scl)).inReset = false ∧ ((clearing (stuck .scl)).engine .a).state = .clearing
        ∧ (∀ p ∈ ((clearing (stuck .scl)).engine .a).poll, (clearing (stuck .scl)).deferredBehind p = false)
        ∧ (clearing (stuck .scl)).collector ≠ .stopping ∧ ((clearing (stuck .scl)).seg .a).rawPending = false
        ∧ ((clearing (stuck .scl)).engine .a).raw = none)
      ∧ (((clearing (rawing .aborted)).engine .a).state = .clearing
          ∧ ((clearing (rawing .aborted)).engine .a).raw = some aRaw
          ∧ (clearing (rawing .aborted)).cu.wait = some (.raw .aborted aRaw)
          ∧ (∀ p ∈ ((clearing (rawing .aborted)).engine .a).poll, (clearing (rawing .aborted)).deferredBehind p = false))
      ∧ (((clearing (rawWaits (stuck .scl))).seg .a).rawPending = true
          ∧ ((clearing (rawWaits (stuck .scl))).engine .a).raw = none
          ∧ (∀ p ∈ ((clearing (rawWaits (stuck .scl))).engine .a).poll,
              (clearing (rawWaits (stuck .scl))).deferredBehind p = false))
      ∧ ((waiting .stop { clearing (stuck .scl) with collector := .stopping }).collector = .stopping
          ∧ (waiting .stop { clearing (stuck .scl) with collector := .stopping }).cu.wait = some .stop)
      ∧ ((∀ i, i < 9 → (pulsed 9).sda.getD i true = false) ∧ (∀ i, i ≤ 9 → (pulsed 9).sclWaits.getD i 0
          < 100 * ((clearing (stuck .scl)).engine .a).latched.stretch))
      ∧ ({ scl := none, sda := some 0 } : LeftLow).sda.isSome = true
      ∧ (2500 ≤ ([0, 2500] : List Nat).getD 1 0 ∧ (∀ j, j < 1 → ([0, 2500] : List Nat).getD j 0 < 2500)
          ∧ 100 * ((clearing (stuck .scl)).engine .a).latched.stretch = 2500
          ∧ 2500 ∈ ({ scl := some 2500, sda := none } : LeftLow).scl)
      ∧ ((pulsed 0).sda.getD 0 true = true
          ∧ (pulsed 0).sclWaits.getD 0 0 < 100 * ((clearing (stuck .scl)).engine .a).latched.stretch)
      ∧ (clearing (stuck .scl)).clearReachesStop (pulsed 0) = true := by decide

theorem witness_StretchTimeoutAndArbitrationLoss :
    ((polling .onWire).inReset = false ∧ ((polling .onWire).engine .a).stage = .onWire
        ∧ ((polling .onWire).engine .a).poll = some aPoll ∧ (polling .onWire).deferredBehind aPoll = false
        ∧ 100 * ((polling .onWire).engine .a).latched.stretch ≤ 2500
        ∧ 2499 < 100 * ((polling .onWire).engine .a).latched.stretch
        ∧ 4999 < 2 * (100 * ((polling .onWire).engine .a).latched.stretch)
        ∧ 2 * (100 * ((polling .onWire).engine .a).latched.stretch) ≤ 5000
        ∧ ((polling .onWire).engine .a).latched.multiMaster = false)
      ∧ ((polling .stopGap).inReset = false ∧ ((polling .stopGap).engine .a).stage = .stopGap
          ∧ ((polling .stopGap).engine .a).poll = some aPoll ∧ (polling .stopGap).deferredBehind aPoll = false)
      ∧ ((∀ i, i < (Work.poll aPoll).xfer.sent.length → ([] : List Bool).getD i true = true)
          ∧ ((Work.poll aPoll).xfer.sent[1]?.map Prod.snd) = some .dataNack ∧ [true, false].getD 1 true = false
          ∧ ∀ j, j < 1 → [true, false].getD j true = true)
      ∧ ((rawing .onSegment).inReset = false ∧ ((rawing .onSegment).engine .a).stage = .onWire
          ∧ ((rawing .onSegment).engine .a).raw = some aRaw
          ∧ (rawing .onSegment).cu.wait = some (.raw .onSegment aRaw) ∧ RawStage.onSegment ≠ .pending)
      ∧ (((contended .onWire 1).engine .a).latched.multiMaster = true ∧ ((contended .onWire 1).engine .a).work ≠ none
          ∧ ((contended .onWire 1).engine .a).retries < 2)
      ∧ ((contended .onWire 2).engine .a).retries = 2
      ∧ ((engineA (fun e => { e with latched := { e.latched with multiMaster := true }, retries := 2 })
            (rawing .aborted)).engine .a).raw = some aRaw := by decide

theorem witness_PollCompletes :
    ((polling .onWire).inReset = false ∧ ((polling .onWire).engine .a).stage = .onWire
        ∧ ((polling .onWire).engine .a).work = some (.poll aPoll) ∧ (polling .onWire).deferredBehind aPoll = false)
      ∧ ((polling .stopGap).inReset = false ∧ ((polling .stopGap).engine .a).stage = .stopGap
          ∧ ((polling .stopGap).engine .a).work = some (.poll aPoll) ∧ (polling .stopGap).deferredBehind aPoll = false
          ∧ ((polling .stopGap).seg .a).scl.high = true ∧ ((polling .stopGap).seg .a).sda.high = true)
      ∧ ((after (.lineFall .a .sda) (polling .stopGap)).engine .a).stage = .stopGap
      ∧ ((after (.lineFall .a .sda) (polling .stopGap)).seg .a).sda.high = false := by decide

/-- ENTRY_LOAD is deferred behind the poll of entry 0. -/
def deferring (s : State) : State := waiting (.entryLoad 0 none) s

theorem witness_DeferredLoadAppliesBehindItsPoll :
    ((deferring (polling .onWire)).inReset = false
        ∧ ((deferring (polling .onWire)).engine .a).work = some (.poll aPoll)
        ∧ (deferring (polling .onWire)).deferredBehind aPoll = true
        ∧ (deferring (polling .onWire)).cu.wait = some (.entryLoad aPoll.entry none)
        ∧ (deferring (polling .onWire)).endsPoll .a (.completion .a (wire [0x37#8]))
        ∧ (deferring (polling .onWire)).endsPoll .a (.stretchTimeout .a .sda 2500 { acks := [true, false], sdaWait := 0, lowBefore := 0 }))
      ∧ ((deferring (contended .stopGap 2)).inReset = false
          ∧ ((deferring (contended .stopGap 2)).engine .a).work = some (.poll aPoll)
          ∧ (deferring (contended .stopGap 2)).deferredBehind aPoll = true
          ∧ (deferring (contended .stopGap 2)).endsPoll .a (.arbitrationLoss .a)
          ∧ (deferring (contended .stopGap 2)).endsPoll .a (.foreignStartSeen .a)
          ∧ (deferring (contended .stopGap 2)).endsPoll .a (.completion .a (wire [])))
      ∧ ((deferring (clearing (stuck .scl))).inReset = false
          ∧ ((deferring (clearing (stuck .scl))).engine .a).work = some (.poll aPoll)
          ∧ (deferring (clearing (stuck .scl))).deferredBehind aPoll = true
          ∧ (deferring (clearing (stuck .scl))).endsPoll .a (.busClearFail (pulsed 0) { scl := some 0, sda := none }))
      ∧ (waiting (.targetLoad 0 aTarget) (polling .onWire)).deferredBehind aPoll = true
      ∧ (waiting (.targetLoad 0 aTarget) (polling .onWire)).cu.wait = some (.targetLoad aPoll.target aTarget) :=
  ⟨⟨by decide, by decide, by decide, by decide, .inl ⟨⟨_, rfl⟩, by decide⟩, .inr (.inl ⟨⟨_, _, _, rfl, by decide⟩, by decide⟩)⟩,
   ⟨by decide, by decide, by decide, .inr (.inr (.inl ⟨by decide, by decide, by decide⟩)),
    .inr (.inr (.inl ⟨by decide, by decide, by decide⟩)), .inl ⟨⟨_, rfl⟩, by decide⟩⟩,
   ⟨by decide, by decide, by decide, .inr (.inr (.inr ⟨⟨_, _, rfl, rfl, by decide⟩, by decide, by decide⟩))⟩,
   by decide, by decide⟩

theorem witness_RawTransferCompletes :
    ((rawing .onSegment).inReset = false ∧ (rawing .onSegment).memoryLaw ∧ ((rawing .onSegment).engine .a).stage = .onWire
        ∧ ((rawing .onSegment).engine .a).work = some (.raw aRaw)
        ∧ (rawing .onSegment).cu.wait = some (.raw .onSegment aRaw) ∧ RawStage.aborted ≠ .pending)
      ∧ ((after (.busStopSeen .a) (rawing .aborted)).inReset = false ∧ (after (.busStopSeen .a) (rawing .aborted)).memoryLaw
          ∧ ((after (.busStopSeen .a) (rawing .aborted)).engine .a).stage = .stopGap
          ∧ ((after (.busStopSeen .a) (rawing .aborted)).engine .a).work = some (.raw aRaw)
          ∧ (after (.busStopSeen .a) (rawing .aborted)).cu.wait = some (.raw .aborted aRaw))
      ∧ ((after (.lineFall .a .scl) (after (.busStopSeen .a) (rawing .aborted))).engine .a).stage = .stopGap
      ∧ ((after (.lineFall .a .scl) (after (.busStopSeen .a) (rawing .aborted))).seg .a).scl.high = false :=
  ⟨⟨by decide, ⟨by decide, by decide⟩, by decide, by decide, by decide, by decide⟩,
   ⟨by decide, ⟨by decide, by decide⟩, by decide, by decide, by decide⟩, by decide, by decide⟩

/-! #### Values, reports, bands, health, the queue -/

theorem witness_OutcomeOfATransaction :
    (∀ i, i < (Work.poll aPoll).xfer.sent.length → (wire [0x37#8]).acks.getD i false = true)
      ∧ (Work.poll aPoll).xfer.outcome [true, false] [] = .dataNack := by decide

theorem witness_ValueByTheValueFormat :
    (anEntry.offset.val + widthBytes anEntry.wide ≤ [0x80#8].length ∧ anEntry.wide = false ∧ anEntry.signed = false)
      ∧ anEntry.sound ∧ ({ anEntry with wide := true, length := 2 }.offset = 0)
      ∧ (Entry.report { Entry.empty with d := anEntry } 0x80 [0x80#8]).2 = some (false, [0x80#8]) :=
  ⟨by decide, by unfold EntryDef.sound; decide, by decide, by decide⟩

/-- An entry in ON_CHANGE mode that has reported 100. -/
def changed : Entry :=
  { Entry.empty with d := { anEntry with mode := .onChange, deadband := 5 }, last := 100, lastExists := true }

theorem witness_OnChangeReportsBeyondTheDeadband :
    changed.d.mode = .onChange ∧ rangeLow changed.d.signed ≤ 0 ∧ 65535 ≤ rangeHigh changed.d.signed
      ∧ changed.lastExists = true ∧ fieldInt changed.d.signed changed.last = 100 ∧ changed.d.deadband.toNat = 5 := by decide

theorem witness_MeanOfNPolls :
    ({ changed with d := { changed.d with mode := .mean } }.d.mode = .mean ∧ changed.meanSum = 0 ∧ changed.meanHeld = 0
        ∧ meanCount changed.d.meanCode = 2)
      ∧ rangeLow true ≤ -32768 ∧ (32767 : Int) ≤ rangeHigh true := by decide

/-- Limits 10 and 20, hysteresis 2, confirm count 2. -/
def banded : Entry :=
  { Entry.empty with d := { anEntry with bandEnable := true, confirm := 2, lowLimit := 10, highLimit := 20, hysteresis := 2 } }

theorem witness_BandClassificationAndRuns :
    banded.d.bandEnable = true ∧ banded.run = none ∧ banded.d.pointsTo banded.stable 20 = none
      ∧ banded.d.pointsTo banded.stable 21 = some .high ∧ (∀ v ∈ [21, 22], banded.d.pointsTo banded.stable v = some .high)
      ∧ banded.d.confirm ≠ 0 ∧ [(21 : Int), 22].length = banded.d.confirm.toNat := by decide

theorem witness_HealthUnitJudgesCompletions :
    (Target.loaded aTarget).health = .active ∧ WorkOutcome.addrNack.counted = true
      ∧ (Target.loaded aTarget).failures + 1 < (Target.loaded aTarget).d.threshold.toNat
      ∧ { Target.loaded aTarget with failures := 1 }.failures + 1 = aTarget.threshold.toNat
      ∧ { Target.loaded aTarget with health := .probing, failures := 2 }.failures = aTarget.threshold.toNat := by decide

theorem witness_UnitsAreWrittenWholeOrLost :
    (7 : Nat) ≤ 2048 - Queue.reset.fill
      ∧ 2048 - { Queue.reset with records := List.replicate 512 (.data (.mark 0) 0) }.fill < 7 := by
  refine ⟨by decide, ?_⟩
  simp only [Queue.fill, sizes, List.map_replicate, List.sum_replicate]; decide

theorem succession_replicate (r : Record) (h : r.isData = true) : ∀ n, successionOk (List.replicate n r) = true
  | 0 => rfl
  | 1 => h
  | n + 2 => by
    have ih := succession_replicate r h (n + 1)
    have hp : r.mayPrecede r = true := by cases r <;> simp_all [Record.isData, Record.mayPrecede]
    simp only [List.replicate_succ, successionOk, Bool.and_eq_true] at ih ⊢
    exact ⟨hp, ih⟩

/-- The queue is full: 512 Mark records of epoch 0. -/
def full : Queue :=
  { Queue.reset with records := List.replicate 512 (.data (.mark 0) 0), epochWritten := some 0, headEpoch := some 0 }

theorem full_fill : full.fill = 2048 := by
  simp only [Queue.fill, sizes, full, List.map_replicate, List.sum_replicate]; decide

theorem full_law : Queue.law full := by
  refine ⟨?_, ?_, succession_replicate _ rfl 512, by decide, by decide⟩
  · rw [full_fill]; decide
  · intro r hr
    rw [List.eq_of_mem_replicate hr]
    show (4 : Nat) ≤ 13; omega

theorem full_epochLaw : Queue.epochLaw full := by
  refine ⟨?_, by intro h; cases h⟩
  have : ∀ n (e : Option Half), epochAfter e (List.replicate n (.data (.mark 0) 0)) = e := by
    intro n
    induction n with
    | zero => intro e; rfl
    | succ n ih => intro e; exact ih e
  exact this 512 (some 0)

theorem witness_EveryRecordIsHeldOrCounted :
    (Queue.law oneMark ∧ Queue.epochLaw oneMark ∧ (Body.mark 0).size ≤ 13 ∧ oneMark.unreadLosses + 2048 ≤ 65535)
      ∧ (Queue.law full ∧ Queue.epochLaw full ∧ 2048 - full.fill < (full.front 0).length + (Body.mark 0).size
          ∧ ∀ l e rest, full.records ≠ .gap l e :: rest)
      ∧ ∀ b ∈ [Body.mark 0, .mark 1], b.size ≤ 13 := by
  refine ⟨⟨witness_RecordQueueLawIsKept.1, witness_EpochLawIsKept.1, by decide, by decide⟩,
    ⟨full_law, full_epochLaw, ?_, ?_⟩, by decide⟩
  · rw [full_fill]; decide
  · intro l e rest h
    have hm : Record.gap l e ∈ full.records := h ▸ List.mem_cons_self
    cases List.eq_of_mem_replicate hm

/-- R123, R122: with no Gap record at the head of a full queue, a Mark record asks for 9 bytes: three Mark records go. -/
theorem test_eviction_stops_at_its_target :
    ((evictUntil 9 { fill := 2048, removed := 0, carried := 0, epoch := none }
        (List.replicate 4 (.data (.mark 0) 0))).1.removed = 3) := by decide

end Sys2Proof.Tests
end

section
/-! PROOFS. Due times (R23) and due-time events (R30, R31). -/

namespace Sys2Proof.Machine

/-! ### Comparison of due times (R23) -/

theorem toNat_long_sub (a b : Long) : (a - b).toNat = (a.toNat + 2 ^ 32 - b.toNat) % 2 ^ 32 := by
  rw [BitVec.toNat_sub, Nat.add_comm, ← Nat.add_sub_assoc b.isLt.le]

theorem reached_iff (D T : Long) : reached D T = true ↔ (T.toNat + 2 ^ 32 - D.toNat) % 2 ^ 32 < 2 ^ 31 := by
  simp only [reached, decide_eq_true_eq, toNat_long_sub]

theorem earlier_iff (J₁ J₂ : Long) : earlier J₁ J₂ = true ↔
    1 ≤ (J₂.toNat + 2 ^ 32 - J₁.toNat) % 2 ^ 32 ∧ (J₂.toNat + 2 ^ 32 - J₁.toNat) % 2 ^ 32 ≤ 2 ^ 31 - 1 := by
  simp only [earlier, decide_eq_true_eq, toNat_long_sub]
  omega

/-- A due time lying 1 to 2^31 ticks ahead is not reached. -/
theorem not_reached_of_ahead (D : Long) {k : Nat} (h1 : 1 ≤ k) (hk : k ≤ 2 ^ 31) :
    reached (D + BitVec.ofNat 32 k) D = false := by
  rw [Bool.eq_false_iff, ne_eq, reached_iff, BitVec.toNat_add, BitVec.toNat_ofNat]
  have := D.isLt
  omega

/-- A due time lying fewer than 2^31 ticks behind is reached. -/
theorem reached_of_behind (D : Long) {k : Nat} (hk : k < 2 ^ 31) : reached D (D + BitVec.ofNat 32 k) = true := by
  rw [reached_iff, BitVec.toNat_add, BitVec.toNat_ofNat]
  have := D.isLt
  omega

theorem earlier_irrefl (J : Long) : earlier J J = false := by
  simp [earlier]

theorem State.fallsDue_iff (s : State) (n : EntryNo) : s.fallsDue n = true ↔
    s.collector = .running ∧ (s.entry n).defined = true ∧ (s.entry n).d.tier ≠ 0
      ∧ reached (s.entry n).nextDue s.tickCount = true := by
  simp only [State.fallsDue, Bool.and_eq_true, beq_iff_eq, bne_iff_ne, and_assoc]

theorem State.ticksToDue_of_reached {s : State} {n : EntryNo} (h : reached (s.entry n).nextDue s.tickCount = true) :
    s.ticksToDue n = 0 := by
  simp [State.ticksToDue, h]

/-- Within a tier only the join due ticks rank. -/
theorem ranksAhead_same_tier (tier : BitVec 2) (J₁ J₂ : Long) :
    ranksAhead (tier, J₁) (tier, J₂) = earlier J₁ J₂ := by
  simp [ranksAhead]

/-- Settles O40: each test is a bound on a difference modulo 2^32, and its users call it. -/
theorem dueTimesAreComparedModulo : Obligations.DueTimesAreComparedModulo :=
  ⟨reached_iff, fun D _ => not_reached_of_ahead D, fun D _ => reached_of_behind D, by decide, by decide, earlier_iff,
    earlier_irrefl, State.fallsDue_iff, fun _ _ => State.ticksToDue_of_reached, ranksAhead_same_tier⟩

/-! ### Due-time events (R30, R31) -/

/-- A due-time event that occurs rewrites its entry alone. -/
theorem exec_dueTimeEvent_of_fallsDue {s : State} {n : EntryNo} (hr : s.inReset = false) (hd : s.fallsDue n = true) :
    exec (.dueTimeEvent n) s = .next (s.setEntry n ((s.entry n).fallDue (s.sleeps n))) := by
  change execDueTimeEvent n s = _
  rw [execDueTimeEvent, running_of_not_inReset hr, hd, whenever_true]

theorem Target.available_eq_false_iff (g : Target) :
    g.available = false ↔ g.d.enabled = false ∨ g.health = .quarantined ∨ g.health = .held := by
  simp [Target.available, or_assoc, imp_iff_not_or]

theorem Target.available_of_health {g : Target} (he : g.d.enabled = true)
    (hh : g.health = .active ∨ g.health = .suspect ∨ g.health = .probing) : g.available = true := by
  rcases hh with hh | hh | hh <;> simp [Target.available, he, hh]

/-- The condition of the skip outcome (R31). -/
theorem State.sleeps_iff (s : State) (n : EntryNo) : s.sleeps n = true ↔
    (s.target (s.entry n).d.target).available = false ∨ (s.engine (s.entrySegment n)).state = .faulted := by
  simp [State.sleeps]

theorem State.sleeps_eq_false_iff (s : State) (n : EntryNo) : s.sleeps n = false ↔
    (s.target (s.entry n).d.target).available = true ∧ (s.engine (s.entrySegment n)).state ≠ .faulted := by
  simp [State.sleeps]

theorem Entry.fallDue_skip (e : Entry) :
    e.fallDue true = { e with nextDue := e.nextDue + e.d.period.setWidth 32 } := rfl

theorem Entry.fallDue_overrun {e : Entry} (h : e.due.isSome = true) : e.fallDue false =
    { e with nextDue := e.nextDue + e.d.period.setWidth 32, overrun := min 15 (e.overrun + 1) } := by
  simp [Entry.fallDue, h, Config.overrunMax]

theorem Entry.fallDue_join {e : Entry} (h : e.due = none) : e.fallDue false =
    { e with nextDue := e.nextDue + e.d.period.setWidth 32, due := some (.scheduled e.nextDue) } := by
  simp [Entry.fallDue, h]

/-- Settles O41: the event rewrites entry n to `Entry.fallDue`, whose three outcomes the conditions select. -/
theorem dueTimeEventSkipsOverrunsOrJoins : Obligations.DueTimeEventSkipsOverrunsOrJoins := by
  intro s n hr hc hdef htier hdue g hg e he
  subst hg he
  have hd : s.fallsDue n = true := (s.fallsDue_iff n).2 ⟨hc, hdef, htier, hdue⟩
  refine ⟨_, exec_dueTimeEvent_of_fallsDue hr hd, rfl, fun m hm => by simp [hm], fun hskip => ?skip,
    fun hen hhealth hseg => ?awake⟩
  case skip =>
    have hs : s.sleeps n = true := by
      rw [State.sleeps_iff, Target.available_eq_false_iff, or_assoc, or_assoc]
      exact hskip
    simp [hs, Entry.fallDue_skip]
  case awake =>
    have hs : s.sleeps n = false :=
      (s.sleeps_eq_false_iff n).2 ⟨Target.available_of_health hen hhealth, hseg⟩
    exact ⟨fun hwaits => by simp [hs, Entry.fallDue_overrun hwaits], fun hnone => by simp [hs, Entry.fallDue_join hnone]⟩

end Sys2Proof.Machine
end

section
/-! PROOFS. The check byte (R55). -/

namespace Sys2Proof.Machine

/-! ### The CRC-8 register -/

/-- A shift of register and byte together takes the byte's top bit as the next message bit, and moves the others up. -/
theorem crcShift_xor (r b : Byte) : crcShift (r ^^^ b) = crcBit r b.msb ^^^ b <<< 1 := by
  simp only [crcShift, crcBit, BitVec.msb_xor, BitVec.shiftLeft_xor_distrib]
  split
  · rw [BitVec.xor_assoc, BitVec.xor_assoc, BitVec.xor_comm (b <<< 1)]
  · rfl

@[simp] theorem crcShift_zero : crcShift 0x00#8 = 0x00#8 := by decide

theorem crcByte_eq_iterate (r b : Byte) : crcByte r b = crcShift^[8] (r ^^^ b) := by
  rw [crcByte, List.foldl_const, List.length_range]

/-- A byte equal to the register clears it. -/
@[simp] theorem crcByte_self (r : Byte) : crcByte r r = 0x00#8 := by
  rw [crcByte_eq_iterate, BitVec.xor_self]
  exact Function.iterate_fixed crcShift_zero 8

@[simp] theorem length_bitsOf (b : Byte) : (bitsOf b).length = 8 := by
  simp [bitsOf]

/-- The next message bit is the top bit of the byte moved up past the bits before it. -/
theorem bitsOf_take_succ (b : Byte) {n : Nat} (hn : n < 8) :
    (bitsOf b).take (n + 1) = (bitsOf b).take n ++ [(b <<< n).msb] := by
  have hbit : (b <<< n).msb = b.getLsbD (7 - n) := by
    simp [BitVec.getMsbD_eq_getLsbD, hn]
  rw [List.take_add_one, hbit]
  simp [bitsOf, hn]

/-- After n shifts the register holds the bit-serial CRC of the byte's n leading bits, and the rest of the byte, moved up,
is still to come. -/
theorem iterate_crcShift_xor (r b : Byte) {n : Nat} (hn : n ≤ 8) :
    crcShift^[n] (r ^^^ b) = ((bitsOf b).take n).foldl crcBit r ^^^ b <<< n := by
  induction n with
  | zero => simp
  | succ n ih =>
    rw [Function.iterate_succ_apply', ih (by omega), crcShift_xor, bitsOf_take_succ b (by omega), List.foldl_append,
      BitVec.shiftLeft_add]
    rfl

/-- The eight shifts of a byte are its eight bits, most significant first. -/
theorem crcByte_eq_foldl_crcBit (r b : Byte) : crcByte r b = (bitsOf b).foldl crcBit r := by
  rw [crcByte_eq_iterate, iterate_crcShift_xor r b le_rfl, List.take_of_length_le (length_bitsOf b).le,
    BitVec.shiftLeft_eq_zero le_rfl, BitVec.xor_zero]

theorem crc8_eq_foldl_crcBit (bs : List Byte) : crc8 bs = (bs.flatMap bitsOf).foldl crcBit 0x00#8 := by
  rw [List.foldl_flatMap, crc8]
  congr 1
  funext r b
  exact crcByte_eq_foldl_crcBit r b

/-- A message with its check byte behind it leaves the register at 00h. -/
theorem crc8_append_crc8 (bs : List Byte) : crc8 (bs ++ [crc8 bs]) = 0x00#8 := by
  rw [crc8, List.foldl_append]
  exact crcByte_self (crc8 bs)

theorem crcShift_eq : crcShift = fun x : Byte => if x.getLsbD 7 = true then (x <<< 1) ^^^ 0x07#8 else x <<< 1 := by
  funext x
  rw [crcShift, BitVec.msb_eq_getLsbD_last]

/-! ### The bytes under the check byte -/

/-- The bytes a transaction sends, in wire order, without the errors they carry (R53, R54). -/
theorem Xfer.sent_bytes (x : Xfer) : x.sent.map (·.1) =
    (if x.hasWrite then (x.address ++ 0#1) :: x.writes else []) ++ (if x.hasRead then [x.address ++ 1#1] else []) := by
  rw [Xfer.sent, List.map_append]
  congr 1
  · split
    · simp [addressByte, Function.comp_def]
    · rfl
  · split <;> rfl

theorem Work.sent_bytes_poll (p : PollWork) : (Work.poll p).xfer.sent.map (·.1) =
    (if p.pointerPresent then [p.address ++ 0#1, p.pointer] else if p.length.val = 0 then [p.address ++ 0#1] else [])
      ++ (if p.length.val = 0 then [] else [p.address ++ 1#1]) := by
  rw [Xfer.sent_bytes]
  congr 1
  · cases hp : p.pointerPresent <;> simp [Work.xfer, Xfer.hasWrite, hp]
  · simp [Work.xfer, Xfer.hasRead]

theorem Work.sent_bytes_raw (r : RawParams) : (Work.raw r).xfer.sent.map (·.1) =
    (if r.write = [] ∧ r.readCount.val ≠ 0 then [] else (r.address ++ 0#1) :: r.write)
      ++ (if r.readCount.val = 0 then [] else [r.address ++ 1#1]) := by
  rw [Xfer.sent_bytes]
  congr 1
  · cases hw : r.write <;> simp [Work.xfer, Xfer.hasWrite, hw]
  · simp [Work.xfer, Xfer.hasRead]

/-- Settles O53: a byte's eight shifts are its bits in turn, and the bytes under the check byte are those sent, then the
data bytes read. -/
theorem checkByteIsTheCrc8 : Obligations.CheckByteIsTheCrc8 := by
  refine ⟨crc8_eq_foldl_crcBit, crc8_append_crc8, fun p received => ?poll, fun r received => ?raw,
    fun r b sh hsh => ?shifts⟩
  case poll => rw [Xfer.expectedCheck, Work.sent_bytes_poll]; rfl
  case raw => rw [Xfer.expectedCheck, Work.sent_bytes_raw]; rfl
  case shifts => rw [hsh, ← crcShift_eq]; exact crcByte_eq_iterate r b

end Sys2Proof.Machine
end

section
/-! PROOFS. The LIMIT condition (R106). -/

namespace Sys2Proof.Machine

/-! ### How the condition may go from one state to another -/

/-- From s to t the LIMIT condition keeps its law, and stays as it was unless it `moves` (R106). -/
def State.limitFollows (s t : State) (moves : Bool) : Prop :=
  (s.limitLawHolds → t.limitLawHolds) ∧ (moves = false → t.limit = s.limit)

theorem State.limitLaw_eq_true_iff (s : State) : s.limitLaw = true ↔ ∃ n, (s.entry n).drivesLimit = true := by
  simp [State.limitLaw, allEntries]

/-- The law reads nothing but which entries drive LIMIT. -/
theorem State.limitLaw_congr {s t : State} (h : ∀ n, (t.entry n).drivesLimit = (s.entry n).drivesLimit) :
    t.limitLaw = s.limitLaw := by
  simp only [State.limitLaw, h]

section
variable {s t u : State} {moves : Bool}

theorem State.limitFollows.refl (s : State) (moves : Bool) : s.limitFollows s moves := ⟨id, fun _ => rfl⟩

theorem State.limitFollows.trans (h : s.limitFollows t moves) (h' : t.limitFollows u moves) : s.limitFollows u moves :=
  ⟨h'.1 ∘ h.1, fun hm => (h'.2 hm).trans (h.2 hm)⟩

/-- The condition stays, and so does what each entry contributes to it. -/
theorem State.limitFollows.of_drives (hl : t.limit = s.limit)
    (hd : ∀ n, (t.entry n).drivesLimit = (s.entry n).drivesLimit) : s.limitFollows t moves :=
  ⟨fun h => hl.trans (h.trans (State.limitLaw_congr hd).symm), fun _ => hl⟩

theorem State.limitFollows.of_entries (hl : t.limit = s.limit) (he : t.entries = s.entries) : s.limitFollows t moves :=
  .of_drives hl fun n => by rw [State.entry_congr he]

theorem State.limitFollows.of_law (h : t.limitLawHolds) : s.limitFollows t true := ⟨fun _ => h, nofun⟩

/-! ### The shapes that commands are made of -/

variable {f : State → State} {c : Bool} {a : RegAddr} {code : Byte}

theorem State.limitFollows.ite {p : Prop} [Decidable p] (ht : p → s.limitFollows t moves)
    (hu : ¬ p → s.limitFollows u moves) : s.limitFollows (if p then t else u) moves := by
  split
  · next hp => exact ht hp
  · next hp => exact hu hp

theorem whenever_limitFollows (h : c = true → s.limitFollows (f s) moves) : s.limitFollows (whenever c f s) moves := by
  cases c with
  | false => exact .refl s moves
  | true => exact h rfl

theorem running_limitFollows (hf : s.limitFollows (f s) moves) (h : running s f = .next t) : s.limitFollows t moves := by
  rcases running_cases h with ⟨-, rfl⟩ | ⟨-, rfl⟩
  · exact .refl t moves
  · exact hf

theorem advance_limitFollows (s : State) (moves : Bool) : s.limitFollows (advance s) moves := .of_entries rfl rfl

theorem writeByte_limitFollows (hf : s.limitFollows (f s) moves) (h : writeByte a f s = .next t) :
    s.limitFollows t moves := by
  rcases writeByte_cases h with rfl | ⟨-, rfl⟩
  · exact .refl t moves
  · exact hf.trans (advance_limitFollows _ _)

theorem command_limitFollows (hf : ∀ s : State, s.limitFollows (f s) moves) (h : command code f s = .next t) :
    s.limitFollows t moves := by
  rcases command_cases h with rfl | ⟨-, rfl⟩ | ⟨-, -, rfl⟩
  · exact .refl t moves
  · have htaken : s.limitFollows (takeCode code s) moves := .of_entries rfl rfl
    exact htaken.trans ((hf _).trans (advance_limitFollows _ _))
  · exact .of_entries rfl rfl

end

/-! ### Operations that leave the condition and its law alone -/

@[simp] theorem State.entry_setSeg (x : Segment) (g : Seg) (s : State) (n : EntryNo) :
    (s.setSeg x g).entry n = s.entry n := State.entry_congr (by simp) n

@[simp] theorem State.entry_modSeg (x : Segment) (f : Seg → Seg) (s : State) (n : EntryNo) :
    (s.modSeg x f).entry n = s.entry n := State.entry_congr (by simp) n

@[simp] theorem Entry.drivesLimit_due (e : Entry) (d : Option DueClass) :
    { e with due := d }.drivesLimit = e.drivesLimit := rfl

@[simp] theorem Entry.drivesLimit_inFlight (e : Entry) (b : Bool) :
    { e with inFlight := b }.drivesLimit = e.drivesLimit := rfl

theorem setEntry_limitFollows {s : State} {n : EntryNo} {e : Entry} (moves : Bool)
    (h : e.drivesLimit = (s.entry n).drivesLimit) : s.limitFollows (s.setEntry n e) moves := by
  refine .of_drives rfl fun m => ?_
  rw [State.entry_setEntry]
  split
  · next hm => rw [hm, h]
  · rfl

theorem mapEntries_limitFollows {s : State} {f : EntryNo → Entry → Entry} (moves : Bool)
    (h : ∀ n e, (f n e).drivesLimit = e.drivesLimit) : s.limitFollows (s.mapEntries f) moves :=
  .of_drives (by simp) fun n => by rw [State.entry_mapEntries, h]

section
variable (s : State) (moves : Bool)

theorem setTarget_limitFollows (t : TargetNo) (g : Target) : s.limitFollows (s.setTarget t g) moves := .of_entries rfl rfl

theorem modSeg_limitFollows (x : Segment) (f : Seg → Seg) : s.limitFollows (s.modSeg x f) moves :=
  .of_entries (by simp) (by simp)

theorem admitRecords_limitFollows (bs : List Body) : s.limitFollows (admitRecords bs s) moves := .of_entries rfl rfl

theorem complete_limitFollows (result detail : Byte) : s.limitFollows (complete result detail s) moves :=
  .of_entries rfl rfl

theorem completeOk_limitFollows : s.limitFollows (completeOk s) moves := .of_entries rfl rfl

theorem beginWait_limitFollows (w : Wait) : s.limitFollows (beginWait w s) moves := .of_entries rfl rfl

theorem unlist_limitFollows (n : EntryNo) : s.limitFollows (unlist n s) moves :=
  (setEntry_limitFollows moves (Entry.drivesLimit_due (s.entry n) none)).trans
    (.of_entries (by simp [unlist]) (by simp [unlist]))

theorem emptyLists_limitFollows (x : Segment) : s.limitFollows (emptyLists x s) moves :=
  .trans (mapEntries_limitFollows moves fun n e => by split <;> rfl)
    (.of_entries (State.setSeg_limit ..) (State.setSeg_entries ..))

theorem unlistTarget_limitFollows (t : TargetNo) : s.limitFollows (unlistTarget t s) moves :=
  .trans (mapEntries_limitFollows moves fun n e => by split <;> rfl)
    (.of_entries (State.setSeg_limit ..) (State.setSeg_entries ..))

theorem clearInFlight_limitFollows (n : EntryNo) : s.limitFollows (clearInFlight n s) moves :=
  setEntry_limitFollows moves (Entry.drivesLimit_inFlight _ _)

theorem applyTargetLoad_limitFollows (t : TargetNo) (d : TargetDef) : s.limitFollows (applyTargetLoad t d s) moves := by
  refine .trans ?_ (setTarget_limitFollows _ moves t (Target.loaded d))
  exact .ite (fun _ => .refl s moves) fun _ => unlistTarget_limitFollows s moves t

theorem attentionEvent_limitFollows (x : Segment) : s.limitFollows (attentionEvent x s) moves := by
  exact .ite (fun _ => .refl s moves) fun _ => mapEntries_limitFollows moves fun n e => by split <;> rfl

theorem startAttention_limitFollows (x : Segment) : s.limitFollows (startAttention x s) moves := by
  exact .ite (fun _ => (modSeg_limitFollows s moves x _).trans (attentionEvent_limitFollows _ moves x))
    fun _ => .refl s moves

theorem takePoll_limitFollows (x : Segment) (n : EntryNo) (c : Cause) : s.limitFollows (takePoll x n c s) moves :=
  (unlist_limitFollows s moves n).trans
    ((setEntry_limitFollows moves (Entry.drivesLimit_inFlight _ _)).trans (modSeg_limitFollows _ moves x _))

theorem enterStopped_limitFollows : s.limitFollows (enterStopped s) moves := .of_entries (by simp) (by simp)

theorem holdTarget_limitFollows (t : TargetNo) : s.limitFollows (holdTarget t s) moves :=
  (unlistTarget_limitFollows s moves t).trans (.of_entries rfl rfl)

theorem releaseTarget_limitFollows (t : TargetNo) : s.limitFollows (releaseTarget t s) moves :=
  .of_entries (by simp [releaseTarget]) (by simp [releaseTarget])

theorem releaseEngine_limitFollows (x : Segment) (st : EngineState) : s.limitFollows (releaseEngine x st s) moves :=
  .of_entries (by simp) (by simp)

theorem finishRaw_limitFollows (r : RawParams) (o : WorkOutcome) (data : List Byte) :
    s.limitFollows (finishRaw r o data s) moves := .of_entries (by simp) (by simp)

theorem finishWork_raw_limitFollows (x : Segment) (r : RawParams) (o : WorkOutcome) (data : List Byte) (st : EngineState) :
    s.limitFollows (finishWork x (.raw r) o data st s) moves :=
  (releaseEngine_limitFollows s moves x st).trans (finishRaw_limitFollows _ moves r o data)

/-- A raw transfer's completion is none of the events of R106. -/
theorem runToStop_raw_limitFollows (x : Segment) (r : RawParams) (resp : WireResponse) :
    s.limitFollows (runToStop x (.raw r) resp s) moves :=
  .trans (.of_entries (by simp) (by simp)) (finishWork_raw_limitFollows _ moves x r _ _ _)

end

/-! ### The events of R106 -/

theorem reevaluateLimit_limitLawHolds (s : State) : (reevaluateLimit s).limitLawHolds := rfl

theorem Entry.report_drivesLimit (e : Entry) (v : Int) (data : List Byte) :
    (e.report v data).1.drivesLimit = e.drivesLimit := by
  unfold Entry.report
  split
  · rfl
  · split <;> rfl
  · dsimp only; split <;> rfl
  · rfl

/-- Without a transition the Band Monitor leaves the stable state (R102). -/
theorem Entry.classify_drivesLimit {e : Entry} {v : Int} (h : (e.classify v).2 = none) :
    (e.classify v).1.drivesLimit = e.drivesLimit := by
  unfold Entry.classify at h ⊢
  split at h
  · simp [*]
  · split at h
    · simp [*, Entry.drivesLimit]
    · split at h
      · cases h
      · simp [*, Entry.drivesLimit]

theorem Entry.process_drivesLimit {e : Entry} {p : PollWork} {g : Target} {o : WorkOutcome} {data : List Byte}
    (h : (e.process p g o data).transition = false) : (e.process p g o data).entry.drivesLimit = e.drivesLimit := by
  unfold Entry.process at h ⊢
  split
  · next ho =>
    rw [if_pos ho] at h
    refine (Entry.classify_drivesLimit (Option.isSome_eq_false_iff.1 h |> Option.isNone_iff_eq_none.1)).trans ?_
    split <;> exact e.report_drivesLimit _ data
  · simp only [Entry.failPoll]
    split <;> rfl

/-- A completion re-evaluates LIMIT where it makes a transition, and otherwise leaves every stable state (R103, R106). -/
theorem processCompletion_limitFollows (p : PollWork) (o : WorkOutcome) (data : List Byte) (s : State) :
    s.limitFollows (processCompletion p o data s) true := by
  refine .trans ?_ (admitRecords_limitFollows _ true _)
  refine .ite (fun _ => .of_law (reevaluateLimit_limitLawHolds _)) fun htr => ?_
  have hentry := Entry.process_drivesLimit (Bool.eq_false_iff.2 htr)
  have hstored := (setTarget_limitFollows s true p.target ((s.target p.target).judge o p.probe).1).trans
    (setEntry_limitFollows true hentry)
  have hlists := hstored.trans
    (.ite (p := ((s.target p.target).judge o p.probe).2 = .quarantined)
      (fun _ => unlistTarget_limitFollows _ true p.target) fun _ => .refl _ true)
  exact .ite (fun _ => hlists) fun _ => hlists.trans (.of_entries rfl rfl)

theorem applyEntryLoad_limitLawHolds (n : EntryNo) (c : Option EntryDef) (s : State) :
    (applyEntryLoad n c s).limitLawHolds := reevaluateLimit_limitLawHolds _

/-- The end of the processing applies a load that is deferred behind the poll (R152). -/
theorem endProcessing_limitFollows (p : PollWork) (s : State) : s.limitFollows (endProcessing p s) true := by
  unfold endProcessing
  split
  · next n c _ =>
    have hload : s.limitFollows (applyEntryLoad n c s) true := .of_law (applyEntryLoad_limitLawHolds n c s)
    exact .ite (fun _ => hload.trans ((clearInFlight_limitFollows _ true _).trans (completeOk_limitFollows _ true)))
      fun _ => clearInFlight_limitFollows s true _
  · next t d _ =>
    have hload := applyTargetLoad_limitFollows s true t d
    exact .ite (fun _ => hload.trans ((clearInFlight_limitFollows _ true _).trans (completeOk_limitFollows _ true)))
      fun _ => clearInFlight_limitFollows s true _
  · exact clearInFlight_limitFollows s true _

theorem finishPoll_limitFollows (p : PollWork) (o : WorkOutcome) (data : List Byte) (s : State) :
    s.limitFollows (finishPoll p o data s) true :=
  (processCompletion_limitFollows p o data s).trans (endProcessing_limitFollows p _)

theorem finishWork_limitFollows (x : Segment) (w : Work) (o : WorkOutcome) (data : List Byte) (st : EngineState)
    (s : State) : s.limitFollows (finishWork x w o data st s) true := by
  cases w with
  | poll p => exact (releaseEngine_limitFollows s true x st).trans (finishPoll_limitFollows p o data _)
  | raw r => exact finishWork_raw_limitFollows s true x r o data st

theorem runToStop_limitFollows (x : Segment) (w : Work) (resp : WireResponse) (s : State) :
    s.limitFollows (runToStop x w resp s) true :=
  .trans (.of_entries (by simp) (by simp)) (finishWork_limitFollows x w _ _ _ _)

theorem loseArbitration_limitFollows (x : Segment) (w : Work) (s : State) :
    s.limitFollows (loseArbitration x w s) true := by
  have hlost := modSeg_limitFollows s true x
  exact .ite (fun _ => hlost _) fun _ => (hlost _).trans (finishWork_limitFollows x w _ _ _ _)

/-- The entry into RUNNING re-evaluates LIMIT, and the attention events behind it reach the lists alone (R26). -/
theorem enterRunning_limitFollows (s : State) : s.limitFollows (enterRunning s) true := by
  refine .trans ?_ ((startAttention_limitFollows _ true .a).trans
    ((startAttention_limitFollows _ true .b).trans (completeOk_limitFollows _ true)))
  exact .of_law (reevaluateLimit_limitLawHolds _)

theorem softReset_limitLawHolds (s : State) : (softReset s).limitLawHolds := reevaluateLimit_limitLawHolds _

theorem endTransaction_limitFollows (s : State) : s.limitFollows (endTransaction s) true :=
  .ite (fun _ => .of_law (softReset_limitLawHolds _)) fun _ => .of_entries rfl rfl

/-! ### One lemma per command with cases of its own -/

section
variable {s t : State}

theorem execHardReset_limitFollows (h : execHardReset s = .next t) : s.limitFollows t true := by
  cases h
  refine .of_law ?_
  have hempty : State.limitLaw State.reset = false := by decide
  exact hempty.symm

theorem execTransactionEnd_limitFollows (h : execTransactionEnd s = .next t) : s.limitFollows t true := by
  cases h
  exact whenever_limitFollows fun _ => endTransaction_limitFollows s

theorem execSoftResetEffect_limitFollows (h : execSoftResetEffect s = .next t) : s.limitFollows t true := by
  cases h
  exact whenever_limitFollows fun _ => endTransaction_limitFollows s

theorem execHardResetEnd_limitFollows (moves : Bool) (h : execHardResetEnd s = .next t) : s.limitFollows t moves := by
  cases h
  exact whenever_limitFollows fun _ => .of_entries rfl rfl

theorem execTransactionOpen_limitFollows (moves : Bool) (h : execTransactionOpen s = .next t) :
    s.limitFollows t moves := by
  cases h
  exact whenever_limitFollows fun _ => .of_entries rfl rfl

theorem execSnapshotLatch_limitFollows (moves : Bool) (c : ReadByte) (h : execSnapshotLatch c s = .next t) :
    s.limitFollows t moves := by
  refine running_limitFollows ?_ h
  split
  · exact .refl s moves
  · exact .of_entries (latchCounter_limit c s) (latchCounter_entries c s)

theorem execQueueDataByteComplete_limitFollows (moves : Bool) (h : execQueueDataByteComplete s = .next t) :
    s.limitFollows t moves := by
  refine running_limitFollows ?_ h
  split
  · exact .refl s moves
  · dsimp only
    split
    · exact .of_entries rfl rfl
    · exact .of_entries rfl rfl
    · exact .of_entries (by simp) (by simp)

theorem storeReg_limitFollows (a : Nat) (v : Byte) (s : State) (moves : Bool) : s.limitFollows (storeReg a v s) moves := by
  unfold storeReg
  split
  iterate 8 exact .of_entries rfl rfl
  exact .ite (fun _ => .of_entries rfl rfl) fun _ => .refl s moves

theorem execRegisterWrite_limitFollows (moves : Bool) (v : Byte) (h : execRegisterWrite v s = .next t) :
    s.limitFollows t moves := by
  refine running_limitFollows (whenever_limitFollows fun _ => ?_) h
  exact (storeReg_limitFollows _ v s moves).trans (advance_limitFollows _ moves)

theorem execStart_limitFollows (h : execStart s = .next t) : s.limitFollows t true :=
  command_limitFollows (fun s =>
    have hwait : s.limitFollows (beginWait .start (s.mapSegs fun g => g.latch.busCheck)) true := .of_entries rfl rfl
    .ite (fun _ => complete_limitFollows s true _ _) fun _ =>
      .ite (fun _ => hwait.trans (enterRunning_limitFollows _)) fun _ => hwait) h

theorem execStop_limitFollows (moves : Bool) (h : execStop s = .next t) : s.limitFollows t moves := by
  refine command_limitFollows (fun s => .ite (fun _ => complete_limitFollows s moves _ _) fun _ => ?_) h
  have hlists := (emptyLists_limitFollows s moves .a).trans (emptyLists_limitFollows _ moves .b)
  have hwait : s.limitFollows (beginWait .stop { emptyLists .b (emptyLists .a s) with collector := .stopping }) moves :=
    hlists.trans (.of_entries (by simp) (by simp))
  exact .ite (fun _ => hwait.trans (enterStopped_limitFollows _ moves)) fun _ => hwait

theorem execEntryLoad_limitFollows (h : execEntryLoad s = .next t) : s.limitFollows t true := by
  refine command_limitFollows (fun s => ?_) h
  split
  · exact complete_limitFollows s true _ _
  · exact .ite (fun _ => complete_limitFollows s true _ _) fun _ => .ite (fun _ => beginWait_limitFollows s true _)
      fun _ => .trans (.of_law (applyEntryLoad_limitLawHolds _ _ _)) (completeOk_limitFollows _ true)

theorem execEntryFetch_limitFollows (moves : Bool) (h : execEntryFetch s = .next t) : s.limitFollows t moves := by
  refine command_limitFollows (fun s => ?_) h
  split
  · exact complete_limitFollows s moves _ _
  · exact .of_entries rfl rfl

theorem execTargetLoad_limitFollows (moves : Bool) (h : execTargetLoad s = .next t) : s.limitFollows t moves := by
  refine command_limitFollows (fun s => ?_) h
  split
  · exact complete_limitFollows s moves _ _
  · exact .ite (fun _ => complete_limitFollows s moves _ _) fun _ => .ite (fun _ => complete_limitFollows s moves _ _)
      fun _ => .ite (fun _ => beginWait_limitFollows s moves _)
        fun _ => (applyTargetLoad_limitFollows s moves _ _).trans (completeOk_limitFollows _ moves)

theorem execTargetFetch_limitFollows (moves : Bool) (h : execTargetFetch s = .next t) : s.limitFollows t moves := by
  refine command_limitFollows (fun s => ?_) h
  split
  · exact complete_limitFollows s moves _ _
  · exact .of_entries rfl rfl

theorem execPollNow_limitFollows (moves : Bool) (h : execPollNow s = .next t) : s.limitFollows t moves := by
  refine command_limitFollows (fun s => ?_) h
  split
  · exact complete_limitFollows s moves _ _
  · exact .ite (fun _ => complete_limitFollows s moves _ _) fun _ => .ite (fun _ => complete_limitFollows s moves _ _)
      fun _ => .ite (fun _ => complete_limitFollows s moves _ _)
        fun _ => (modSeg_limitFollows s moves _ _).trans (completeOk_limitFollows _ moves)

theorem onEnabledTarget_limitFollows {f : TargetNo → State → State} (moves : Bool)
    (hf : ∀ t (s : State), s.limitFollows (f t s) moves) (s : State) : s.limitFollows (onEnabledTarget f s) moves := by
  unfold onEnabledTarget
  split
  · exact complete_limitFollows s moves _ _
  · exact .ite (fun _ => (hf _ s).trans (completeOk_limitFollows _ moves)) fun _ => complete_limitFollows s moves _ _

theorem execTargetHold_limitFollows (moves : Bool) (h : execTargetHold s = .next t) : s.limitFollows t moves :=
  command_limitFollows (onEnabledTarget_limitFollows moves fun t s =>
    .ite (fun _ => .refl s moves) fun _ => holdTarget_limitFollows s moves t) h

theorem execTargetRelease_limitFollows (moves : Bool) (h : execTargetRelease s = .next t) : s.limitFollows t moves :=
  command_limitFollows (onEnabledTarget_limitFollows moves fun t s =>
    .ite (fun _ => .refl s moves) fun _ => releaseTarget_limitFollows s moves t) h

theorem execRawTransfer_limitFollows (moves : Bool) (h : execRawTransfer s = .next t) : s.limitFollows t moves :=
  command_limitFollows (fun s =>
    .ite (fun _ => complete_limitFollows s moves _ _) fun _ => .ite (fun _ => complete_limitFollows s moves _ _)
      fun _ => .ite (fun _ => complete_limitFollows s moves _ _)
        fun _ => (beginWait_limitFollows s moves _).trans (modSeg_limitFollows _ moves _ _)) h

theorem execMark_limitFollows (moves : Bool) (h : execMark s = .next t) : s.limitFollows t moves := by
  refine command_limitFollows (fun s => ?_) h
  exact .of_entries rfl rfl

theorem execFlush_limitFollows (moves : Bool) (h : execFlush s = .next t) : s.limitFollows t moves := by
  refine command_limitFollows (fun s => ?_) h
  exact .of_entries rfl rfl

theorem abortBody_limitFollows (s : State) (moves : Bool) : s.limitFollows (abortBody s) moves := by
  unfold abortBody
  split
  iterate 5 exact .of_entries rfl rfl
  · exact .of_entries (by simp) (by simp)
  · exact .of_entries rfl rfl
  · exact .of_entries rfl rfl

theorem execUnknown_limitFollows (moves : Bool) (code : Byte) (h : execUnknown code s = .next t) :
    s.limitFollows t moves := by
  unfold execUnknown at h
  split at h
  · cases h; exact .refl s moves
  · exact command_limitFollows (fun s => complete_limitFollows s moves _ _) h

theorem execDueTimeEvent_limitFollows (moves : Bool) (n : EntryNo) (h : execDueTimeEvent n s = .next t) :
    s.limitFollows t moves := by
  refine running_limitFollows (whenever_limitFollows fun _ => setEntry_limitFollows moves ?_) h
  unfold Entry.fallDue
  dsimp only
  split
  · rfl
  · split <;> rfl

theorem execAttnFallingEdge_limitFollows (moves : Bool) (x : Segment) (h : execAttnFallingEdge x s = .next t) :
    s.limitFollows t moves := by
  cases h
  have hfall := modSeg_limitFollows s moves x
  exact .ite (fun _ => (hfall _).trans (attentionEvent_limitFollows _ moves x)) fun _ => hfall _

theorem execSelectionOccasion_limitFollows (moves : Bool) (x : Segment) (h : execSelectionOccasion x s = .next t) :
    s.limitFollows t moves := by
  refine running_limitFollows (whenever_limitFollows fun _ => ?_) h
  split
  · exact .refl s moves
  · exact .of_entries (by simp) (by simp)
  · exact takePoll_limitFollows s moves x _ _

theorem execForeignStartSeen_limitFollows (x : Segment) (h : execForeignStartSeen x s = .next t) :
    s.limitFollows t true := by
  refine running_limitFollows (whenever_limitFollows fun _ => ?_) h
  dsimp only
  split
  · exact .ite (fun _ => (modSeg_limitFollows s true x _).trans (loseArbitration_limitFollows x _ _))
      fun _ => modSeg_limitFollows s true x _
  · exact modSeg_limitFollows s true x _

theorem execBusClearFail_limitFollows (r : ClearRun) (left : LeftLow) (h : execBusClearFail r left s = .next t) :
    s.limitFollows t true := by
  refine running_limitFollows (whenever_limitFollows fun _ => ?_) h
  have hlists := fun f => (modSeg_limitFollows s true r.segment f).trans (emptyLists_limitFollows _ true r.segment)
  have hwork (u : State) : u.limitFollows (match (s.engine r.segment).work with
      | some w => finishWork r.segment w .busStuck [] .faulted u
      | none => releaseEngine r.segment .faulted u) true := by
    split
    · exact finishWork_limitFollows _ _ _ _ _ u
    · exact releaseEngine_limitFollows u true _ _
  have hreport (u : State) :
      u.limitFollows (setSegerr (admitRecords [busStuckRecord r.segment] (withdrawRaw r.segment u))) true :=
    .of_entries (by simp) (by simp)
  have hfailed := ((hlists (Seg.clearFailed r left (Config.unitsPerTick * (s.engine r.segment).latched.stretch)
    s.elapsed)).trans (hwork _)).trans (hreport _)
  exact .ite (fun _ => hfailed.trans (enterStopped_limitFollows _ true)) fun _ => hfailed

theorem execCompletion_limitFollows (x : Segment) (w : WireResponse) (h : execCompletion x w s = .next t) :
    s.limitFollows t true := by
  refine running_limitFollows ?_ h
  split
  · exact runToStop_limitFollows x _ w s
  · exact .refl s true
  · exact .refl s true

theorem execDeferredLoadEnd_limitFollows (x : Segment) (w : WireResponse) (h : execDeferredLoadEnd x w s = .next t) :
    s.limitFollows t true := by
  refine running_limitFollows ?_ h
  split
  · exact .ite (fun _ => runToStop_limitFollows x _ w s) fun _ => .refl s true
  · exact .refl s true
  · exact .refl s true

theorem execRawTransferCompletion_limitFollows (moves : Bool) (x : Segment) (w : WireResponse)
    (h : execRawTransferCompletion x w s = .next t) : s.limitFollows t moves := by
  refine running_limitFollows ?_ h
  split
  · exact runToStop_raw_limitFollows s moves x _ w
  · exact .refl s moves
  · exact .refl s moves

theorem execStretchTimeout_limitFollows (x : Segment) (l : LineName) (k : Nat) (held : HeldTransfer)
    (h : execStretchTimeout x l k held s = .next t) : s.limitFollows t true := by
  refine running_limitFollows ?_ h
  split
  · exact .ite (fun _ => (modSeg_limitFollows s true x _).trans (finishWork_limitFollows x _ _ _ _ _))
      fun _ => .refl s true
  · exact .refl s true

theorem execArbitrationLoss_limitFollows (x : Segment) (h : execArbitrationLoss x s = .next t) :
    s.limitFollows t true := by
  refine running_limitFollows ?_ h
  split
  · exact .ite (fun _ => loseArbitration_limitFollows x _ s) fun _ => .refl s true
  · exact .refl s true

end

/-! ### Every step -/

/-- Every command keeps the law of LIMIT, and moves the condition only where `movesLimit` says so (R106). -/
theorem exec_limitFollows {i : Instr} {s t : State} (h : exec i s = .next t) : s.limitFollows t (movesLimit i) := by
  cases i with
  | hardReset => exact execHardReset_limitFollows h
  | transactionEnd => exact execTransactionEnd_limitFollows h
  | softResetEffect => exact execSoftResetEffect_limitFollows h
  | hardResetEnd => exact execHardResetEnd_limitFollows _ h
  | transactionOpen => exact execTransactionOpen_limitFollows _ h
  | snapshotLatch c => exact execSnapshotLatch_limitFollows _ c h
  | queueDataByteComplete => exact execQueueDataByteComplete_limitFollows _ h
  | commandByte b | queueDataByteStart | bandPendingWrite v =>
    exact running_limitFollows (whenever_limitFollows fun _ => .of_entries rfl rfl) h
  | softReset v | evict v | irqPushPull v | limitActiveHigh v | watermarkLowWrite v | watermarkHighWrite v
  | intFlagsWrite v | intEnableWrite v => exact writeByte_limitFollows (.of_entries rfl rfl) h
  | registerWrite v => exact execRegisterWrite_limitFollows _ v h
  | start => exact execStart_limitFollows h
  | stop => exact execStop_limitFollows _ h
  | collectorEnterRunning =>
    exact running_limitFollows (whenever_limitFollows fun _ => enterRunning_limitFollows s) h
  | collectorEnterStopped =>
    exact running_limitFollows (whenever_limitFollows fun _ => enterStopped_limitFollows s _) h
  | entryLoad => exact execEntryLoad_limitFollows h
  | entryFetch => exact execEntryFetch_limitFollows _ h
  | targetLoad => exact execTargetLoad_limitFollows _ h
  | targetFetch => exact execTargetFetch_limitFollows _ h
  | pollNow => exact execPollNow_limitFollows _ h
  | targetRelease => exact execTargetRelease_limitFollows _ h
  | targetHold => exact execTargetHold_limitFollows _ h
  | rawTransfer => exact execRawTransfer_limitFollows _ h
  | mark => exact execMark_limitFollows _ h
  | flush => exact execFlush_limitFollows _ h
  | abort => exact writeByte_limitFollows (abortBody_limitFollows s _) h
  | unknown c => exact execUnknown_limitFollows _ c h
  | tick => exact running_limitFollows (whenever_limitFollows fun _ => .of_entries (by simp) (by simp)) h
  | stampCounterAdvance => exact running_limitFollows (.of_entries (by simp) (by simp)) h
  | backoffExpiry u => exact running_limitFollows (whenever_limitFollows fun _ => setTarget_limitFollows s _ u _) h
  | dueTimeEvent n => exact execDueTimeEvent_limitFollows _ n h
  | attnFallingEdge x => exact execAttnFallingEdge_limitFollows _ x h
  | attnRearm x | busFree x l | lineFall x l =>
    cases h
    exact modSeg_limitFollows s _ x _
  | busStopSeen x | busBusyTimeout x | busClear x =>
    exact running_limitFollows (whenever_limitFollows fun _ => modSeg_limitFollows s _ x _) h
  | busClearSuccess r =>
    exact running_limitFollows (whenever_limitFollows fun _ => .of_entries (by simp) (by simp)) h
  | selectionOccasion x => exact execSelectionOccasion_limitFollows _ x h
  | foreignStartSeen x => exact execForeignStartSeen_limitFollows x h
  | busClearFail r left => exact execBusClearFail_limitFollows r left h
  | stretchTimeout x l k held => exact execStretchTimeout_limitFollows x l k held h
  | arbitrationLoss x => exact execArbitrationLoss_limitFollows x h
  | completion x w => exact execCompletion_limitFollows x w h
  | deferredLoadEnd x w => exact execDeferredLoadEnd_limitFollows x w h
  | rawTransferCompletion x w => exact execRawTransferCompletion_limitFollows _ x w h

theorem step_limitFollows {s t : State} (h : step s = .next t) :
    (s.limitLawHolds → t.limitLawHolds) ∧ ((∀ c ∈ s.pending.head?, movesLimit c = false) → t.limit = s.limit) := by
  unfold step at h
  split at h
  · cases h
    exact ⟨id, fun _ => rfl⟩
  · next c rest hp =>
    have hc := exec_limitFollows h
    exact ⟨hc.1, fun hm => hc.2 (hm c (by simp [hp]))⟩

/-! ### What shows the condition -/

theorem Entry.drivesLimit_iff (e : Entry) : e.drivesLimit = true ↔
    e.defined = true ∧ e.d.bandEnable = true ∧ e.d.driveLimit = true ∧ (e.stable = .high ∨ e.stable = .low) := by
  cases hs : e.stable <;> simp [Entry.drivesLimit, hs, and_assoc]

theorem State.limitPin_eq (s : State) : s.limitPin =
    if s.ctrl.limitActiveHigh then (if s.limit then .high else .low) else (if s.limit then .low else .high) := by
  cases hl : s.limit <;> cases hc : s.ctrl.limitActiveHigh <;> simp [State.limitPin, hl, hc]

theorem State.readReg_state_limit (s : State) : (s.readReg 0x03#7).getLsbD 7 = s.limit := by
  change s.stateByte.getLsbD 7 = s.limit
  rw [State.stateByte, BitVec.getLsbD_append, BitVec.getLsbD_append, BitVec.getLsbD_append, BitVec.getLsbD_append]
  simp

/-- Settles O5: no command lets LIMIT and its law drift apart (`exec_limitFollows`), by one lemma per operation. -/
theorem limitFollowsTheStableStates : Obligations.LimitFollowsTheStableStates := by
  intro s t hs hstep
  obtain ⟨hkept, hquiet⟩ := step_limitFollows hstep
  have ht : t.limit = t.limitLaw := hkept hs
  refine ⟨ht, ?_, hquiet, t.limitPin_eq, t.readReg_state_limit⟩
  rw [ht, State.limitLaw_eq_true_iff]
  simp only [Entry.drivesLimit_iff]

end Sys2Proof.Machine
end

section
/-! PROOFS. The value of a poll (R91) and the report modes (R93 to R98). -/

namespace Sys2Proof.Machine

/-! ### Fields as integers (R92) -/

theorem toNat_joinBytes (lo hi : Byte) : (joinBytes lo hi).toNat = 256 * hi.toNat + lo.toNat := by
  rw [joinBytes, BitVec.toNat_append, ← Nat.shiftLeft_add_eq_or_of_lt lo.isLt, Nat.shiftLeft_eq, Nat.mul_comm]

theorem byte_toInt_eq (b : Byte) : b.toInt = if 128 ≤ b.toNat then (b.toNat : Int) - 256 else b.toNat := by
  rw [BitVec.toInt_eq_toNat_cond]
  split <;> split <;> omega

theorem fieldInt_eq (signed : Bool) (h : Half) : fieldInt signed h =
    if signed = true ∧ 32768 ≤ h.toNat then (h.toNat : Int) - 65536 else h.toNat := by
  cases signed with
  | false => simp [fieldInt]
  | true =>
    simp only [fieldInt, if_true, true_and, BitVec.toInt_eq_toNat_cond]
    split <;> split <;> omega

theorem fieldInt_mem_range (signed : Bool) (h : Half) :
    rangeLow signed ≤ fieldInt signed h ∧ fieldInt signed h ≤ rangeHigh signed := by
  have hlt := h.isLt
  rw [fieldInt_eq]
  cases signed <;> simp only [rangeLow, rangeHigh] <;> split <;> simp_all <;> omega

/-- The field that holds a value in the range of the signedness reads as that value. -/
theorem fieldInt_valueField {signed : Bool} {v : Int} (hlo : rangeLow signed ≤ v) (hhi : v ≤ rangeHigh signed) :
    fieldInt signed (valueField v) = v := by
  cases signed with
  | false =>
    simp only [rangeLow, rangeHigh, Bool.false_eq_true, if_false] at hlo hhi
    simp only [fieldInt, valueField, Bool.false_eq_true, if_false, BitVec.toNat_ofInt]
    omega
  | true =>
    simp only [rangeLow, rangeHigh, if_true] at hlo hhi
    simp only [fieldInt, valueField, if_true, BitVec.toInt_ofInt]
    exact Int.bmod_eq_of_le (by omega) (by omega)

/-! ### The value (R91) -/

/-- The bytes of the value, put together without regard to sign (R91). -/
def EntryDef.rawValue (d : EntryDef) (data : List Byte) : Nat :=
  let b0 := (data.getD d.offset.val 0).toNat
  let b1 := (data.getD (d.offset.val + 1) 0).toNat
  if d.wide = true then (if d.highFirst = true then 256 * b0 + b1 else b0 + 256 * b1) else b0

theorem EntryDef.rawValue_lt (d : EntryDef) (data : List Byte) :
    d.rawValue data < if d.wide = true then 65536 else 256 := by
  have h0 := (data.getD d.offset.val 0).isLt
  have h1 := (data.getD (d.offset.val + 1) 0).isLt
  simp only [EntryDef.rawValue]
  split
  · split <;> omega
  · exact h0

/-- A raw value with the sign bit set stands for a negative one where the format is signed. -/
theorem EntryDef.value_eq (d : EntryDef) (data : List Byte) : d.value data =
    if d.signed = true ∧ (if d.wide = true then 32768 else 128) ≤ d.rawValue data
    then (d.rawValue data : Int) - (if d.wide = true then 65536 else 256) else (d.rawValue data : Int) := by
  simp only [EntryDef.value, EntryDef.rawValue]
  by_cases hw : d.wide = true
  · by_cases hh : d.highFirst = true <;> simp [hw, hh, fieldInt_eq, toNat_joinBytes, Nat.add_comm]
  · by_cases hs : d.signed = true <;> simp [hw, hs, byte_toInt_eq]

/-- The ranges of the four widths and signednesses. -/
theorem EntryDef.value_range (d : EntryDef) (data : List Byte) :
    (d.wide = false → d.signed = false → 0 ≤ d.value data ∧ d.value data ≤ 255)
      ∧ (d.wide = false → d.signed = true → -128 ≤ d.value data ∧ d.value data ≤ 127)
      ∧ (d.wide = true → d.signed = false → 0 ≤ d.value data ∧ d.value data ≤ 65535)
      ∧ (d.wide = true → d.signed = true → -32768 ≤ d.value data ∧ d.value data ≤ 32767) := by
  have hlt := d.rawValue_lt data
  rw [d.value_eq data]
  refine ⟨?_, ?_, ?_, ?_⟩ <;> intro hw hs <;> simp only [hw, hs] at hlt ⊢ <;> split <;> simp_all <;> omega

/-- The manual's worked bytes 0Ch 80h in each byte order and signedness. -/
theorem EntryDef.value_of_0C80 (d : EntryDef) (hw : d.wide = true) (ho : d.offset = 0) :
    (d.highFirst = true → d.value [0x0C#8, 0x80#8] = 3200)
      ∧ (d.highFirst = false → d.signed = false → d.value [0x0C#8, 0x80#8] = 32780)
      ∧ (d.highFirst = false → d.signed = true → d.value [0x0C#8, 0x80#8] = -32756) := by
  rw [d.value_eq]
  refine ⟨fun hh => ?_, fun hh hs => ?_, fun hh hs => ?_⟩ <;> simp [EntryDef.rawValue, *]

/-! ### The report modes (R94 to R97) -/

section
variable {e : Entry} {v : Int} {data : List Byte}

theorem Entry.report_always (h : e.d.mode = .always) : e.report v data = (e, some (false, data)) := by
  simp [Entry.report, h]

theorem Entry.report_silent (h : e.d.mode = .silent) : e.report v data = (e, none) := by
  simp [Entry.report, h]

theorem Entry.report_onChange (h : e.d.mode = .onChange) : e.report v data =
    if e.lastExists = false ∨ (e.d.deadband.toNat : Int) < |v - fieldInt e.d.signed e.last|
    then ({ e with last := valueField v, lastExists := true }, some (false, data)) else (e, none) := by
  simp only [Entry.report, h, Int.abs_eq_natAbs, Nat.cast_lt, Bool.or_eq_true, Bool.not_eq_true', decide_eq_true_eq]

theorem Entry.report_onChange_data (h : e.d.mode = .onChange) {x : Bool × List Byte} (hx : (e.report v data).2 = some x) :
    x = (false, data) := by
  rw [Entry.report_onChange h] at hx
  split at hx
  · exact (Option.some.inj hx).symm
  · cases hx

end

/-- A successful poll's records: the Sample record of the report, then the Band record of a transition (R89, R98, R103). -/
theorem Entry.succeed_eq (e : Entry) (n : EntryNo) (c : Cause) (probe : Bool) (data : List Byte) :
    ∀ v, v = e.d.value data →
      ∀ e', e' = (if (e.report v data).2.isSome then { (e.report v data).1 with overrun := 0 } else (e.report v data).1) →
        e.succeed n c probe data =
          { entry := (e'.classify v).1
            records := (match (e.report v data).2 with
                | some x => [.sample n c x.1 probe e.overrun x.2]
                | none => [])
              ++ (match (e'.classify v).2 with
                | some t => if e.d.bandRecord = true then [.band n t.1 t.2 (BitVec.ofInt 16 v)] else []
                | none => [])
            transition := (e'.classify v).2.isSome } := by
  rintro v rfl e' rfl
  simp only [Entry.succeed, valueField]
  congr 2
  · cases (e.report (e.d.value data) data).2 <;> rfl
  · generalize (Entry.classify _ _).2 = transition
    cases transition <;> cases e.d.bandRecord <;> rfl

/-- Settles O54: the value by its raw bytes (`EntryDef.value_eq`), and the records of a success part by part. -/
theorem valueByTheValueFormat : Obligations.ValueByTheValueFormat := by
  refine ⟨?value, EntryDef.value_of_0C80, fun d hd => hd.2.1, ?reports⟩
  case value =>
    rintro d data - b0 rfl b1 rfl raw rfl
    exact ⟨d.value_eq data, d.value_range data⟩
  case reports =>
    intro e n c probe data v hv
    exact ⟨Entry.report_always, Entry.report_silent, fun h _ => Entry.report_onChange_data h,
      e.succeed_eq n c probe data v hv⟩

/-- Settles O55: the mode's one test decides, and a value in range survives its field. -/
theorem onChangeReportsBeyondTheDeadband : Obligations.OnChangeReportsBeyondTheDeadband := by
  intro e v data hmode hlo hhi
  have hlast := fieldInt_mem_range e.d.signed e.last
  rw [Entry.report_onChange hmode]
  refine ⟨fun hbeyond => ?beyond, fun hexists hwithin => ?within, fun hexists hzero => ?zero, fun hexists htop => ?top⟩
  case beyond =>
    rw [if_pos hbeyond]
    exact ⟨rfl, rfl, fieldInt_valueField hlo hhi⟩
  case within =>
    exact if_neg (by simp [hexists, hwithin])
  case zero =>
    have hiff : e.lastExists = false ∨ (e.d.deadband.toNat : Int) < |v - fieldInt e.d.signed e.last|
        ↔ v ≠ fieldInt e.d.signed e.last := by
      simp [hexists, hzero, sub_eq_zero]
    by_cases hv : v = fieldInt e.d.signed e.last
    · rw [if_neg (hiff.not_left.2 hv)]; simp [hv]
    · rw [if_pos (hiff.2 hv)]; simp [hv]
  case top =>
    have hspan : |v - fieldInt e.d.signed e.last| ≤ 65535 := by
      have hwidth : rangeHigh e.d.signed - rangeLow e.d.signed = 65535 := by cases e.d.signed <;> rfl
      rw [abs_le]
      omega
    rw [if_neg (by simpa [hexists, htop] using hspan)]

end Sys2Proof.Machine
end

section
/-! PROOFS. The Band Monitor (R100 to R104). -/

namespace Sys2Proof.Machine

/-! ### The target state (R101) -/

/-- A table of two rows: each row holds where its condition does and none above it. -/
theorem twoRows_iff {α : Type} {p q : Prop} [Decidable p] [Decidable q] {a b : α} (hab : a ≠ b) :
    ((if p then some a else if q then some b else none) = some a ↔ p)
      ∧ ((if p then some a else if q then some b else none) = some b ↔ ¬ p ∧ q)
      ∧ ((if p then some a else if q then some b else none) = none ↔ ¬ p ∧ ¬ q) := by
  by_cases hp : p <;> by_cases hq : q <;> simp [hp, hq, hab, hab.symm]

theorem EntryDef.pointsTo_normal (d : EntryDef) (v : Int) : d.pointsTo .normal v =
    if fieldInt d.signed d.highLimit < v then some .high else if v < fieldInt d.signed d.lowLimit then some .low
    else none := rfl

theorem EntryDef.pointsTo_high (d : EntryDef) (v : Int) : d.pointsTo .high v =
    if v < fieldInt d.signed d.lowLimit then some .low else if v ≤ d.highReturn then some .normal else none := rfl

theorem EntryDef.pointsTo_low (d : EntryDef) (v : Int) : d.pointsTo .low v =
    if fieldInt d.signed d.highLimit < v then some .high else if d.lowReturn ≤ v then some .normal else none := rfl

/-! ### Runs (R102) -/

section
variable {e : Entry} {v : Int} {b : Band} {vs : List Int}

theorem Entry.classify_of_disabled (h : e.d.bandEnable = false) : e.classify v = (e, none) := by
  simp [Entry.classify, h]

theorem Entry.classify_of_pointsTo_none (h : e.d.bandEnable = true) (hp : e.d.pointsTo e.stable v = none) :
    e.classify v = ({ e with run := none }, none) := by
  simp [Entry.classify, h, hp, nextRun]

theorem nextRun_some (run : Option (Band × Nat)) (b : Band) :
    nextRun run (some b) = some (b, match run with | some (dir, c) => if dir = b then c + 1 else 1 | none => 1) := by
  cases run with
  | none => rfl
  | some r =>
    simp only [nextRun]
    split <;> rfl

/-- The run grows to k, which makes the transition where it is the confirm count. -/
theorem Entry.classify_of_nextRun {k : Nat} (h : e.d.bandEnable = true)
    (hrun : nextRun e.run (e.d.pointsTo e.stable v) = some (b, k)) : e.classify v =
      if k = e.d.confirm.toNat then ({ e with stable := b, run := none }, some (e.stable, b))
      else ({ e with run := some (b, k) }, none) := by
  simp [Entry.classify, h, hrun]

/-- A run toward b of k values; a run of none is clear (R100). -/
def runToward (b : Band) (k : Nat) : Option (Band × Nat) := if k = 0 then none else some (b, k)

theorem nextRun_runToward (b : Band) (k : Nat) : nextRun (runToward b k) (some b) = some (b, k + 1) := by
  cases k <;> simp [runToward, nextRun]

theorem Entry.classify_runToward {k : Nat} (h : e.d.bandEnable = true) (hp : e.d.pointsTo e.stable v = some b) :
    { e with run := runToward b k }.classify v =
      if k + 1 = e.d.confirm.toNat then ({ e with stable := b, run := none }, some (e.stable, b))
      else ({ e with run := some (b, k + 1) }, none) :=
  Entry.classify_of_nextRun (e := { e with run := runToward b k }) h (by rw [hp, nextRun_runToward])

theorem Entry.classifies_append_singleton (e : Entry) (vs : List Int) (v : Int) : e.classifies (vs ++ [v]) =
    (((e.classifies vs).1.classify v).1, (e.classifies vs).2 ++ [((e.classifies vs).1.classify v).2]) := by
  induction vs generalizing e with
  | nil => rfl
  | cons w ws ih => simp [Entry.classifies, ih]

/-- Values that all point to b, fewer than the confirm count, make a run and no transition. -/
theorem Entry.classifies_of_short (h : e.d.bandEnable = true) (hrun : e.run = none)
    (hp : ∀ v ∈ vs, e.d.pointsTo e.stable v = some b) (hlen : vs.length < e.d.confirm.toNat) :
    e.classifies vs = ({ e with run := runToward b vs.length }, vs.map fun _ => none) := by
  induction vs using List.reverseRecOn with
  | nil => simp [Entry.classifies, runToward, ← hrun]
  | append_singleton ws w ih =>
    rw [List.length_append, List.length_singleton] at hlen
    have hws := ih (fun v hv => hp v (List.mem_append_left _ hv)) (by omega)
    rw [Entry.classifies_append_singleton, hws, Entry.classify_runToward h (hp w (by simp)), if_neg hlen.ne]
    simp [runToward]

/-- As many values as the confirm count, all pointing to b: the last one makes the transition. -/
theorem Entry.classifies_of_confirm (h : e.d.bandEnable = true) (hrun : e.run = none)
    (hp : ∀ v ∈ vs, e.d.pointsTo e.stable v = some b) (hc : e.d.confirm ≠ 0)
    (hlen : vs.length = e.d.confirm.toNat) : e.classifies vs =
      ({ e with stable := b, run := none }, (vs.dropLast.map fun _ => none) ++ [some (e.stable, b)]) := by
  induction vs using List.reverseRecOn with
  | nil => exact absurd (BitVec.eq_of_toNat_eq hlen.symm) hc
  | append_singleton ws w _ =>
    rw [List.length_append, List.length_singleton] at hlen
    have hws := Entry.classifies_of_short h hrun (fun v hv => hp v (List.mem_append_left _ hv)) (by omega)
    rw [Entry.classifies_append_singleton, hws, Entry.classify_runToward h (hp w (by simp)), if_pos hlen]
    simp

end

/-- Settles O57: the table row by row (`twoRows_iff`), and runs by induction on the values. -/
theorem bandClassificationAndRuns : Obligations.BandClassificationAndRuns := by
  refine ⟨?table, fun e v b h => ⟨Entry.classify_of_pointsTo_none h, fun hp k hk => ?run⟩,
    fun _ _ => Entry.classify_of_disabled, fun _ _ _ _ _ => rfl,
    fun e b vs h hrun hp hc => ⟨fun hlen hne => ?short, ?confirm⟩⟩
  case table =>
    rintro d v hi rfl lo rfl top rfl bot rfl
    rw [d.pointsTo_normal, d.pointsTo_high, d.pointsTo_low]
    obtain ⟨hnh, hnl, hnn⟩ := twoRows_iff (p := fieldInt d.signed d.highLimit < v) (q := v < fieldInt d.signed d.lowLimit)
      (show Band.high ≠ .low by decide)
    obtain ⟨hhl, hhn, hhh⟩ := twoRows_iff (p := v < fieldInt d.signed d.lowLimit) (q := v ≤ d.highReturn)
      (show Band.low ≠ .normal by decide)
    obtain ⟨hlh, hln, hll⟩ := twoRows_iff (p := fieldInt d.signed d.highLimit < v) (q := d.lowReturn ≤ v)
      (show Band.high ≠ .normal by decide)
    simp only [not_lt, not_le] at hnl hnn hhn hhh hln hll
    exact ⟨hnh, hnl, hnn, hhl, hhn, hhh, hlh, hln, hll⟩
  case run =>
    have hgrow : nextRun e.run (e.d.pointsTo e.stable v) = some (b, k) := by rw [hp, hk]; exact nextRun_some _ _
    rw [Entry.classify_of_nextRun h hgrow]
    exact ⟨fun h => if_pos h, fun h => if_neg h⟩
  case short =>
    rw [Entry.classifies_of_short h hrun hp hlen, runToward, if_neg (by simpa using hne)]
  case confirm => exact Entry.classifies_of_confirm h hrun hp hc

end Sys2Proof.Machine
end

section
/-! PROOFS. The unit of a data record and its admission (R116 to R119). -/

namespace Sys2Proof.Machine

/-! ### Sizes and the need of a unit (R111, R117) -/

@[simp] theorem sizes_nil : sizes [] = 0 := rfl

@[simp] theorem sizes_cons (r : Record) (rs : List Record) : sizes (r :: rs) = r.size + sizes rs := List.sum_cons

@[simp] theorem sizes_append (rs ts : List Record) : sizes (rs ++ ts) = sizes rs + sizes ts := by
  simp only [sizes, List.map_append, List.sum_append]

@[simp] theorem Record.size_data (b : Body) (stamp : Half) : (Record.data b stamp).size = b.size := rfl

@[simp] theorem Record.size_time (epoch : Half) : (Record.time epoch).size = 3 := rfl

@[simp] theorem Record.size_gap (lost : Nat) (epoch : Half) : (Record.gap lost epoch).size = 5 := rfl

/-- Of the data records, a Mark record alone has 4 bytes: a Sample record has 5 before its data. -/
theorem Body.size_eq_four_iff (b : Body) : b.size = 4 ↔ ∃ tag, b = .mark tag := by
  cases b with
  | sample _ _ _ _ _ data =>
    have hne : 5 + data.length ≠ 4 := by omega
    simpa [Body.size] using hne
  | fault => simp [Body.size]
  | band => simp [Body.size]
  | mark tag => exact ⟨fun _ => ⟨tag, rfl⟩, fun _ => rfl⟩

section
variable (q : Queue) (epoch : Half) (stamp : Long) (b : Body)

/-- R116 by whether epoch_written is valid: a Time record stands in front where it is invalid or another epoch. -/
theorem Queue.front_eq_match : q.front epoch =
    if 0 < q.pendingLoss then [.gap q.pendingLoss epoch]
    else match q.epochWritten with
      | none => [.time epoch]
      | some e => if e = epoch then [] else [.time epoch] := by
  cases h : q.epochWritten <;> simp [Queue.front, h]

theorem Queue.sizes_front : sizes (q.front epoch) =
    if 0 < q.pendingLoss then 5 else if q.epochWritten = some epoch then 0 else 3 := by
  simp only [Queue.front, apply_ite sizes, sizes_cons, sizes_nil, Record.size_gap, Record.size_time, Nat.add_zero]

/-! ### A unit written at the tail, and a record lost (R118, R119) -/

theorem Queue.fill_write : (q.write stamp b).fill = q.fill + q.need (epochOf stamp) b := by
  simp [Queue.fill, Queue.write, Queue.need]

variable {q stamp b}
variable {evict pinned : Bool}

theorem Queue.admitOne_of_fits (h : q.need (epochOf stamp) b ≤ q.free) :
    q.admitOne evict pinned stamp b = { queue := q.write stamp b, written := true, loss := false } := if_pos h

/-- Hold mode and a pinned head alike remove nothing, so that what does not fit is lost. -/
theorem Queue.admitOne_of_refused (h : q.free < q.need (epochOf stamp) b) (hkeep : evict = false ∨ pinned = true) :
    q.admitOne evict pinned stamp b = { queue := q.lose, written := false, loss := true } := by
  have hno : (!evict || pinned) = true := by simpa using hkeep
  exact (if_neg (Nat.not_le.mpr h)).trans (if_pos hno)

end

/-- Settles O59: the unit that `write` appends has the bookkeeping record and the need of the statement. -/
theorem unitsAreWrittenWholeOrLost : Obligations.UnitsAreWrittenWholeOrLost := by
  rintro q evict pinned stamp b epoch rfl front hfront need hneed
  obtain rfl : front = q.front (epochOf stamp) := hfront.trans (q.front_eq_match _).symm
  obtain rfl : need = q.need (epochOf stamp) b := by rw [hneed, Queue.need, q.sizes_front, Nat.add_comm]; rfl
  refine ⟨rfl, Queue.admitOne_of_fits, fun h => ?fill, Queue.admitOne_of_refused, b.size_eq_four_iff⟩
  case fill => rw [Queue.admitOne_of_fits h, q.fill_write]

end Sys2Proof.Machine
end

section
/-! PROOFS. Commands that complete at the event at which they are taken, and codes that name no command (R148). -/

namespace Sys2Proof.Machine

/-! ### A code written to CMD (R145, R146) -/

section
variable {s t : State} {f : State → State} {code result detail : Byte}

/-- A command that writes storage alone, and completes at the event at which it is taken. -/
theorem command_completes {m : Memory} (h : s.takes)
    (hf : f (takeCode code s) = complete result detail { takeCode code s with mem := m }) :
    ∃ t, command code f s = .next t ∧ s.completedAs t code result detail
      ∧ t = { s with host := t.host, cu := t.cu, sticky := t.sticky, mem := m } := by
  rw [command_of_takes h, hf]
  exact ⟨_, rfl, ⟨⟨rfl, rfl⟩, rfl⟩, rfl⟩

/-- `command_of_busy` with its state written out. -/
theorem command_of_busy_eq {w : Wait} (h : s.writing 0x04#7) (hw : s.cu.wait = some w) : command code f s =
    .next { s with sticky := { s.sticky with cmdref := true }, host := { s.host with pointer := 0x05#7 } } := by
  rw [command_of_busy h hw, advance, notTaken_host, h.pointer, nextPointer_four]
  rfl

/-- INT_FLAGS shows CMD at bit 4 (section 10.4). -/
theorem State.intFlags_cmd (s : State) : s.intFlags.getLsbD 4 = s.sticky.cmd := by
  simp [State.intFlags, BitVec.getLsbD_append, -BitVec.getLsbD_eq_getElem, -Nat.reduceAdd]

/-- What the host reads of a completed command: CMD, CMD_RESULT, CMD_DETAIL and the CMD flag. -/
theorem State.completedAs.readReg (h : s.completedAs t code result detail) :
    t.readReg 0x04#7 = code ∧ t.readReg 0x06#7 = result ∧ t.readReg 0x07#7 = detail
      ∧ (t.readReg 0x08#7).getLsbD 4 = true := by
  obtain ⟨⟨-, hcu⟩, hsticky⟩ := h
  refine ⟨?cmd, ?result, ?detail, ?flag⟩
  case cmd => change t.cu.cmd = code; rw [hcu]
  case result => change t.resultByte = result; simp [State.resultByte, State.busy, hcu]
  case detail => change t.detailByte = detail; simp [State.detailByte, hcu]
  case flag => change t.intFlags.getLsbD 4 = true; rw [t.intFlags_cmd, hsticky]

/-! ### A code that names no command (R148) -/

theorem exec_unknown_eq (hc : commandCodes.contains code = false) :
    exec (.unknown code) s = command code (complete resUnknown 0) s := by
  change (if commandCodes.contains code then _ else _) = _
  rw [hc]
  rfl

end

/-- Settles O28: such a code is a command that completes with UNKNOWN (`exec_unknown_eq`). -/
theorem unknownCodeCompletesWithUnknown : Obligations.UnknownCodeCompletesWithUnknown := by
  refine ⟨by decide, by decide, fun s code hw hc => ?_⟩
  rw [exec_unknown_eq hc]
  refine ⟨fun hready => ?ready, fun hbusy => ?busy⟩
  case ready =>
    obtain ⟨t, ht, hdone, hframe⟩ := command_completes (m := s.mem) ⟨hw, hready⟩ rfl
    exact ⟨t, ht, hdone, hframe, hdone.readReg⟩
  case busy =>
    obtain ⟨w, hwait⟩ := Option.isSome_iff_exists.mp hbusy
    exact command_of_busy_eq hw hwait

end Sys2Proof.Machine
end

section
/-! PROOFS. ENTRY_FETCH and TARGET_FETCH (R153), and the images they write (R12, R18, R174, R175). -/

namespace Sys2Proof.Machine

/-! ### The argument of a command as a number (R147) -/

section
variable {s : State}

@[simp] theorem takeCode_entryArg (code : Byte) (s : State) : (takeCode code s).entryArg = s.entryArg := rfl

@[simp] theorem takeCode_targetArg (code : Byte) (s : State) : (takeCode code s).targetArg = s.targetArg := rfl

theorem State.entryArg_eq_none (h : 31 < s.cu.arg.toNat) : s.entryArg = none := dif_neg (by omega)

theorem State.entryArg_eq_some {n : EntryNo} (h : s.cu.arg.toNat = n.val) : s.entryArg = some n := by
  simp [State.entryArg, h]

theorem State.targetArg_eq_none (h : 15 < s.cu.arg.toNat) : s.targetArg = none := dif_neg (by omega)

theorem State.targetArg_eq_some {k : TargetNo} (h : s.cu.arg.toNat = k.val) : s.targetArg = some k := by
  simp [State.targetArg, h]

/-! ### The fetches (R153) -/

theorem entryFetch_turnedAway (h : s.takes) (harg : s.entryArg = none) :
    s.turnsAway .entryFetch 0x04#8 0x02#8 0x00#8 := by
  change ∃ t, execEntryFetch s = .next t ∧ _
  exact command_completes (m := s.mem) h (by simp only [takeCode_entryArg, harg]; rfl)

theorem targetFetch_turnedAway (h : s.takes) (harg : s.targetArg = none) :
    s.turnsAway .targetFetch 0x06#8 0x02#8 0x00#8 := by
  change ∃ t, execTargetFetch s = .next t ∧ _
  exact command_completes (m := s.mem) h (by simp only [takeCode_targetArg, harg]; rfl)

/-- A command that copies bytes into storage, and completes with OK at the event at which it is taken. -/
theorem command_copies {code : Byte} {f : State → State} {base : Nat} {bytes : List Byte} (h : s.takes)
    (hmem : s.memoryLaw)
    (hf : f (takeCode code s) = completeOk { takeCode code s with mem := Memory.writeBytes s.mem base bytes }) :
    ∃ t, command code f s = .next t ∧ s.completedAs t code 0x01#8 0x00#8
      ∧ t = { s with host := t.host, cu := t.cu, sticky := t.sticky, mem := t.mem }
      ∧ ∀ a, Memory.read t.mem a =
          if base ≤ a ∧ a < base + bytes.length then bytes.getD (a - base) 0 else Memory.read s.mem a := by
  obtain ⟨t, ht, hdone, hframe⟩ := command_completes h hf
  have hm : t.mem = Memory.writeBytes s.mem base bytes := by rw [hframe]
  exact ⟨t, ht, hdone, hm ▸ hframe, fun a => hm ▸ Memory.read_writeBytes a bytes base hmem.1⟩

theorem entryFetch_copies {n : EntryNo} (h : s.takes) (hmem : s.memoryLaw) (harg : s.entryArg = some n) :
    ∃ t, exec .entryFetch s = .next t ∧ s.completedAs t 0x04#8 0x01#8 0x00#8
      ∧ t = { s with host := t.host, cu := t.cu, sticky := t.sticky, mem := t.mem }
      ∧ ∀ a, Memory.read t.mem a =
          if 0x30 ≤ a ∧ a < 0x4A then (s.entryImage n).getD (a - 0x30) 0 else Memory.read s.mem a := by
  change ∃ t, execEntryFetch s = .next t ∧ _
  exact command_copies (base := entryImageBase) (bytes := s.entryImage n) h hmem
    (by simp only [takeCode_entryArg, harg]; rfl)

theorem targetFetch_copies {k : TargetNo} (h : s.takes) (hmem : s.memoryLaw) (harg : s.targetArg = some k) :
    ∃ t, exec .targetFetch s = .next t ∧ s.completedAs t 0x06#8 0x01#8 0x00#8
      ∧ t = { s with host := t.host, cu := t.cu, sticky := t.sticky, mem := t.mem }
      ∧ ∀ a, Memory.read t.mem a =
          if 0x4A ≤ a ∧ a < 0x54 then (s.targetImage k).getD (a - 0x4A) 0 else Memory.read s.mem a := by
  change ∃ t, execTargetFetch s = .next t ∧ _
  exact command_copies (base := targetImageBase) (bytes := s.targetImage k) h hmem
    (by simp only [takeCode_targetArg, harg]; rfl)

/-- A BUSY unit takes no fetch. -/
theorem fetch_of_busy {w : Wait} (h : s.writing 0x04#7) (hw : s.cu.wait = some w) {c : Instr}
    (hc : c ∈ [Instr.entryFetch, .targetFetch]) : exec c s =
      .next { s with sticky := { s.sticky with cmdref := true }, host := { s.host with pointer := 0x05#7 } } := by
  simp only [List.mem_cons, List.not_mem_nil, or_false] at hc
  obtain rfl | rfl := hc
  · change execEntryFetch s = _; exact command_of_busy_eq h hw
  · change execTargetFetch s = _; exact command_of_busy_eq h hw

end

/-! ### Packed bytes and 16-bit fields

In the lemmas on packed bytes the widths stay sums (`-Nat.reduceAdd`), as the lemmas on `++` need them. -/

theorem hiByte_append_loByte (h : Half) : hiByte h ++ loByte h = h := BitVec.extractLsb'_append_extractLsb'

theorem toNat_loByte_add_hiByte (h : Half) : (loByte h).toNat + 256 * (hiByte h).toNat = h.toNat := by
  rw [Nat.add_comm, ← toNat_joinBytes, joinBytes, hiByte_append_loByte]

theorem toNat_of_eq_ofNat {w k : Nat} {x : BitVec w} (h : x = BitVec.ofNat w k) (hk : k < 2 ^ w) : x.toNat = k := by
  rw [h, BitVec.toNat_ofNat, Nat.mod_eq_of_lt hk]

/-- Four flags below a 4-bit field. -/
theorem flags_fields (hi : BitVec 4) (f₃ f₂ f₁ f₀ : Bool) {b : Byte}
    (hb : b = hi ++ BitVec.ofBool f₃ ++ BitVec.ofBool f₂ ++ BitVec.ofBool f₁ ++ BitVec.ofBool f₀) :
    b.getLsbD 0 = f₀ ∧ b.getLsbD 1 = f₁ ∧ b.getLsbD 2 = f₂ ∧ b.getLsbD 3 = f₃ ∧ b.extractLsb' 4 4 = hi := by
  subst hb
  simp [BitVec.getLsbD_append, BitVec.extractLsb'_append_eq_of_le, -BitVec.getLsbD_eq_getElem, -Nat.reduceAdd]

/-- Two 2-bit fields below a 4-bit field. -/
theorem codes_fields (hi : BitVec 4) (c₁ c₀ : BitVec 2) :
    (hi ++ c₁ ++ c₀).extractLsb' 0 2 = c₀ ∧ (hi ++ c₁ ++ c₀).extractLsb' 2 2 = c₁
      ∧ (hi ++ c₁ ++ c₀).extractLsb' 4 4 = hi := by
  simp [BitVec.extractLsb'_append_eq_of_le, BitVec.extractLsb'_append_eq_of_add_le, -Nat.reduceAdd]

/-- A flag above a bus address. -/
theorem flag_above_address (address : BitVec 7) (f : Bool) : (BitVec.ofBool f ++ address).getLsbD 7 = f := by
  simp [BitVec.getLsbD_append, -BitVec.getLsbD_eq_getElem, -Nat.reduceAdd]

theorem segmentCode_eq_ofBool (x : Segment) : segmentCode x = BitVec.ofBool (decide (x = .b)) := by
  cases x <;> rfl

theorem EntryDef.shapeByte_fields (d : EntryDef) :
    d.shapeByte.extractLsb' 0 4 = BitVec.ofNat 4 d.length.val ∧ d.shapeByte.getLsbD 4 = d.pointerPresent
      ∧ d.shapeByte.getLsbD 5 = d.attention ∧ d.shapeByte.extractLsb' 6 2 = d.tier := by
  simp [EntryDef.shapeByte, BitVec.getLsbD_append, BitVec.extractLsb'_append_eq_of_le,
    BitVec.extractLsb'_append_eq_of_add_le, -BitVec.getLsbD_eq_getElem, -Nat.reduceAdd]

theorem EntryDef.formatByte_fields (d : EntryDef) :
    d.formatByte.extractLsb' 0 2 = d.mode.code ∧ d.formatByte.extractLsb' 2 2 = d.meanCode
      ∧ d.formatByte.getLsbD 4 = d.wide ∧ d.formatByte.getLsbD 5 = d.signed ∧ d.formatByte.getLsbD 6 = d.highFirst
      ∧ d.formatByte.getLsbD 7 = false := by
  simp [EntryDef.formatByte, BitVec.getLsbD_append, BitVec.extractLsb'_append_eq_of_le,
    BitVec.extractLsb'_append_eq_of_add_le, -BitVec.getLsbD_eq_getElem, -Nat.reduceAdd]

theorem EntryDef.bandByte_fields (d : EntryDef) :
    d.bandByte.getLsbD 0 = d.bandEnable ∧ d.bandByte.getLsbD 1 = d.bandRecord ∧ d.bandByte.getLsbD 2 = d.driveLimit
      ∧ d.bandByte.getLsbD 3 = false ∧ d.bandByte.extractLsb' 4 4 = d.confirm :=
  flags_fields _ _ _ _ _ rfl

/-! ### Live values of the images (R12) -/

theorem runCount_le {run : Option (Band × Nat)} {k : Nat} (h : ∀ r ∈ run, r.2 ≤ k) : runCount run ≤ k := by
  cases run with
  | none => exact Nat.zero_le k
  | some r => exact h r rfl

theorem State.inOneShot_eq_decide (s : State) (n : EntryNo) :
    s.inOneShot n = decide (n ∈ (s.seg (s.entrySegment n)).oneShot) := List.contains_eq_mem _ _

theorem State.toNat_ticksToDue (s : State) (n : EntryNo) : (s.ticksToDue n).toNat =
    if s.collector = .running ∧ (s.entry n).defined = true ∧ (s.entry n).d.tier ≠ 0
        ∧ reached (s.entry n).nextDue s.tickCount = false
    then min 65535 (((s.entry n).nextDue.toNat + 2 ^ 32 - s.tickCount.toNat) % 2 ^ 32) else 0 := by
  simp only [State.ticksToDue, Bool.not_eq_true']
  split
  · rw [BitVec.toNat_ofNat, toNat_long_sub, Nat.mod_eq_of_lt (by omega)]
  · rfl

/-- Settles O29: a taken fetch writes its image (`command_copies`), and each byte of an image packs its fields. -/
theorem fetchCopiesIntoTheImage : Obligations.FetchCopiesIntoTheImage := by
  refine ⟨fun s h => ⟨fun hn => entryFetch_turnedAway h (State.entryArg_eq_none hn),
      fun hk => targetFetch_turnedAway h (State.targetArg_eq_none hk)⟩,
    fun s n h hmem harg => entryFetch_copies h hmem (State.entryArg_eq_some harg),
    fun s k h hmem harg => targetFetch_copies h hmem (State.targetArg_eq_some harg),
    fun s w h hw c hc => fetch_of_busy h hw hc, fun s n => ⟨rfl, ?entryBytes⟩, fun s k => ⟨rfl, ?targetBytes⟩⟩
  case entryBytes =>
    rintro e rfl b rfl
    obtain ⟨hlength, hpresent, hattention, htier⟩ := (s.entry n).d.shapeByte_fields
    obtain ⟨hmode, hmean, hwide, hsigned, hfirst, hzero⟩ := (s.entry n).d.formatByte_fields
    obtain ⟨henable, hrecord, hdrive, hgap, hconfirm⟩ := (s.entry n).d.bandByte_fields
    obtain ⟨hstable, hdirection, hcount⟩ :=
      codes_fields (BitVec.ofNat 4 (runCount (s.entry n).run)) (runDirectionCode (s.entry n).run) (s.entry n).stable.code
    obtain ⟨hdefined, hdue, hshot, hflight, hoverrun⟩ :=
      flags_fields (BitVec.ofNat 4 (s.entry n).overrun) (s.entry n).inFlight (s.inOneShot n) (s.entry n).due.isSome
        (s.entry n).defined rfl
    refine ⟨⟨Nat.mod_eq_of_lt (by omega), rfl, ?length, hpresent, hattention, htier, ?mode, hmean, hwide, hsigned, hfirst,
      hzero, Nat.mod_eq_of_lt (by omega), henable, hrecord, hdrive, hgap, hconfirm, hiByte_append_loByte _,
      hiByte_append_loByte _, hiByte_append_loByte _, hiByte_append_loByte _, hiByte_append_loByte _,
      hiByte_append_loByte _⟩, ?stable, ?direction, fun hrun => ?count, hdefined, hdue, ?shot, hflight,
      fun hrange => ?overrun, hiByte_append_loByte _, ?ticks, fun hrange => Nat.mod_eq_of_lt (by omega), rfl⟩
    case length => exact toNat_of_eq_ofNat hlength (by omega)
    case mode => exact hmode.trans (by cases (s.entry n).d.mode <;> rfl)
    case stable => exact hstable.trans (by cases (s.entry n).stable <;> rfl)
    case direction => exact hdirection.trans (by rcases (s.entry n).run with _ | ⟨_ | _ | _, _⟩ <;> rfl)
    case count =>
      have hle := runCount_le hrun
      exact (toNat_of_eq_ofNat hcount (by omega)).trans (by cases (s.entry n).run <;> rfl)
    case shot => exact hshot.trans (s.inOneShot_eq_decide n)
    case overrun => exact toNat_of_eq_ofNat hoverrun (by omega)
    case ticks => exact (toNat_loByte_add_hiByte _).trans (s.toNat_ticksToDue n)
  case targetBytes =>
    rintro g rfl b rfl
    obtain ⟨hsegment, hcheck, hstop, hgap, hthreshold⟩ :=
      flags_fields (s.target k).d.threshold false (s.target k).d.stopBetween (s.target k).d.check
        (decide ((s.target k).d.segment = .b)) (congrArg (_ ++ ·) (segmentCode_eq_ofBool (s.target k).d.segment))
    refine ⟨BitVec.extractLsb'_append_eq_right, ?enabled, hsegment, hcheck, hstop, hgap, hthreshold,
      hiByte_append_loByte _, hiByte_append_loByte _, ?health, fun hrange => Nat.mod_eq_of_lt (by omega),
      fun hrange => ?remaining⟩
    case enabled => exact flag_above_address _ _
    case health => change (s.target k).health.code.setWidth 8 = _; cases (s.target k).health <;> rfl
    case remaining => exact (toNat_loByte_add_hiByte _).trans (Nat.mod_eq_of_lt (by omega))

end Sys2Proof.Machine
end

section
/-! PROOFS. The WATERMARK register, written in two bytes (R171). -/

namespace Sys2Proof.Machine

/-! ### A byte written at its address, and the soft reset that CSN's rise brings (R168, R172) -/

section
variable {s : State}

/-- `writeByte_of_writing` with the pointer written out, for an effect that leaves the pointer alone. -/
theorem writeByte_of_writing_eq {a : RegAddr} {f : State → State} (h : s.writing a)
    (hf : (f s).host.pointer = s.host.pointer) :
    writeByte a f s = .next { f s with host := { (f s).host with pointer := nextPointer a } } := by
  rw [writeByte_of_writing h, advance, hf, h.pointer]

theorem exec_softResetEffect_eq (hcsn : s.host.csnLow = true) (hreq : s.host.resetRequested = true) :
    exec .softResetEffect s = .next (softReset
      { s with host := { s.host with csnLow := false, framing := .noTransaction, burstOpen := false, byteOut := none }
               port := ReadPort.reset }) := by
  change execSoftResetEffect s = _
  rw [execSoftResetEffect, hcsn, hreq, Bool.and_self, whenever_true, endTransaction, if_pos hreq]

/-! ### The two bytes of WATERMARK (R171) -/

theorem exec_watermarkLowWrite_eq (h : s.writing 0x16#7) (v : Byte) : exec (.watermarkLowWrite v) s =
    .next { s with host := { s.host with heldLow := v, pointer := 0x17#7 } } := by
  change execWatermarkLowWrite v s = _
  exact writeByte_of_writing_eq h rfl

/-- The value formed is limited to 2047. -/
theorem exec_watermarkHighWrite_eq (h : s.writing 0x17#7) (v : Byte) : exec (.watermarkHighWrite v) s =
    .next { s with watermark := min 2047 (256 * v.toNat + s.host.heldLow.toNat)
                   host := { s.host with pointer := 0x18#7 } } := by
  change execWatermarkHighWrite v s = _
  exact writeByte_of_writing_eq h rfl

end

/-- The two bytes read are those of the value in effect. -/
theorem State.toNat_readReg_watermark {s : State} (h : s.watermark < 2 ^ 16) :
    (s.readReg 0x16#7).toNat + 256 * (s.readReg 0x17#7).toNat = s.watermark := by
  change (loByte (BitVec.ofNat 16 s.watermark)).toNat + 256 * (hiByte (BitVec.ofNat 16 s.watermark)).toNat = _
  rw [toNat_loByte_add_hiByte, toNat_of_eq_ofNat rfl h]

theorem State.wmark_iff (s : State) : s.wmark = true ↔ s.watermark ≠ 0 ∧ s.watermark ≤ s.queue.fill := by
  rw [State.wmark, decide_eq_true_iff, Nat.pos_iff_ne_zero]

/-- Settles O18: both resets clear the held byte, and the two byte rows (`exec_watermarkLowWrite_eq`,
`exec_watermarkHighWrite_eq`) leave a value that the two registers can show. -/
theorem watermarkIsWrittenInTwoBytes : Obligations.WatermarkIsWrittenInTwoBytes := by
  refine ⟨?hardReset, fun s hcsn hreq => ⟨_, exec_softResetEffect_eq hcsn hreq, rfl, rfl⟩,
    fun s v hw => ⟨_, exec_watermarkLowWrite_eq hw v, rfl, rfl, rfl⟩,
    fun s v hw => ⟨_, exec_watermarkHighWrite_eq hw v, ?limited, State.toNat_readReg_watermark ?fits, State.wmark_iff _⟩⟩
  case hardReset =>
    rintro s t ⟨⟩
    exact ⟨rfl, rfl⟩
  case limited => rw [min_def_lt]
  case fits => exact (Nat.min_le_left _ _).trans_lt (by decide)

end Sys2Proof.Machine
end

section
/-! PROOFS. The byte format of records (R111, R176). -/

namespace Sys2Proof.Machine

/-! ### The header byte and the size (R111, R176) -/

theorem Record.length_bytes (r : Record) : r.bytes.length = r.size := by
  rcases r with ⟨_ | _ | _ | _, stamp⟩ | _ | _
  case data.sample n cause reduced probe overrun ds => exact Nat.add_comm ds.length 5
  all_goals rfl

theorem Record.length_bodyBytes (r : Record) : r.bodyBytes.length = r.size - 1 := by
  rw [← r.length_bytes]
  rfl

/-- A body of at most 31 bytes has its length in the header's low five bits. -/
theorem Record.header_fields (r : Record) (h : r.size ≤ 32) :
    r.header.extractLsb' 5 3 = r.kind ∧ (r.header.extractLsb' 0 5).toNat = r.bodyBytes.length := by
  refine ⟨BitVec.extractLsb'_append_eq_left, ?_⟩
  rw [r.length_bodyBytes]
  exact toNat_of_eq_ofNat BitVec.extractLsb'_append_eq_right (by omega)

/-- The bytes of a record by the numbers of its kind and of its body's length. -/
theorem Record.bytes_eq_header_cons {r : Record} (k len : Nat) (hkind : r.kind.toNat = k) (hsize : r.size = len + 1)
    (hlen : len < 2 ^ 5) : r.bytes = BitVec.ofNat 8 (32 * k + len) :: r.bodyBytes := by
  have hheader : r.header.toNat = 32 * k + len := by
    rw [Record.header, BitVec.toNat_append, hkind, hsize, Nat.add_sub_cancel, BitVec.toNat_ofNat, Nat.mod_eq_of_lt hlen,
      ← Nat.shiftLeft_add_eq_or_of_lt hlen, Nat.shiftLeft_eq, Nat.mul_comm]
  rw [Record.bytes, ← hheader, BitVec.ofNat_toNat, BitVec.setWidth_eq]

/-! ### Packed bytes of the bodies (R176)

The widths stay sums here too (`-Nat.reduceAdd`). -/

/-- Two flags between a 4-bit field and a 2-bit code. -/
theorem infoByte_fields (count : BitVec 4) (probe reduced : Bool) (code : BitVec 2) {b : Byte}
    (hb : b = count ++ BitVec.ofBool probe ++ BitVec.ofBool reduced ++ code) :
    b.extractLsb' 0 2 = code ∧ b.getLsbD 2 = reduced ∧ b.getLsbD 3 = probe ∧ b.extractLsb' 4 4 = count := by
  subst hb
  simp [BitVec.getLsbD_append, BitVec.extractLsb'_append_eq_of_le, BitVec.extractLsb'_append_eq_right,
    -BitVec.getLsbD_eq_getElem, -Nat.reduceAdd]

/-- A zero bit between a 4-bit field and a 3-bit code. -/
theorem detailByte_fields (count : BitVec 4) (code : BitVec 3) {b : Byte} (hb : b = count ++ 0#1 ++ code) :
    b.extractLsb' 0 3 = code ∧ b.getLsbD 3 = false ∧ b.extractLsb' 4 4 = count := by
  subst hb
  simp [BitVec.getLsbD_append, BitVec.extractLsb'_append_eq_of_le, BitVec.extractLsb'_append_eq_right,
    -BitVec.getLsbD_eq_getElem, -Nat.reduceAdd]

/-! ### The data of a REDUCED sample (R96) -/

/-- Only a mean is REDUCED, and its data are the two bytes of one field. -/
theorem Entry.report_reduced_length {e : Entry} {v : Int} {data ds : List Byte}
    (h : (e.report v data).2 = some (true, ds)) : ds.length = 2 := by
  cases hmode : e.d.mode with
  | always => rw [Entry.report_always hmode] at h; cases h
  | silent => rw [Entry.report_silent hmode] at h; cases h
  | onChange => cases Entry.report_onChange_data hmode h
  | mean =>
    simp only [Entry.report, hmode] at h
    split at h <;> cases h
    rfl

/-- Settles O25: the header from kind and length (`Record.bytes_eq_header_cons`), the packed bytes field by field, and each
code by its cases. -/
theorem recordsHaveTheirByteFormat : Obligations.RecordsHaveTheirByteFormat := by
  refine ⟨fun r => ⟨r.length_bytes, fun h => r.header_fields (by omega)⟩, ?sample,
    fun _ _ _ _ => Entry.report_reduced_length, ?fault, ?band,
    fun _ => Record.bytes_eq_header_cons 4 2 rfl rfl (by decide), ?gap,
    fun _ _ => Record.bytes_eq_header_cons 6 3 rfl rfl (by decide)⟩
  case sample =>
    intro n cause reduced probe overrun ds st _ hds hrange
    obtain ⟨hcause, hreduced, hprobe, hoverrun⟩ := infoByte_fields (BitVec.ofNat 4 overrun) probe reduced cause.code rfl
    refine ⟨_, ?bytes, hcause.trans ?code, hreduced, hprobe, toNat_of_eq_ofNat hoverrun (by omega)⟩
    case bytes =>
      rw [Record.bytes_eq_header_cons 1 (4 + ds.length) rfl (Nat.add_right_comm 4 1 _) (by omega), ← Nat.add_assoc]
      rfl
    case code => cases cause <;> rfl
  case fault =>
    intro t n code health count st hrange
    obtain ⟨hhealth, hzero, hcount⟩ := detailByte_fields (BitVec.ofNat 4 count) ((health.map Health.code).getD 7#3) rfl
    refine ⟨_, ?bytes, hhealth.trans ?healthCode, hzero, toNat_of_eq_ofNat hcount (by omega)⟩
    case bytes =>
      refine (Record.bytes_eq_header_cons 2 6 rfl rfl (by decide)).trans (congrArg (0x46#8 :: ·)
        (congrArg₂ List.cons ?target (congrArg₂ List.cons ?entry
          (congrArg (loByte st :: hiByte st :: ·) (congrArg₂ List.cons ?code rfl)))))
      case target => cases t <;> rfl
      case entry => cases n <;> rfl
      case code => cases code <;> rfl
    case healthCode => rcases health with _ | _ | _ <;> rfl
  case band =>
    intro n f t v st
    obtain ⟨hfrom, hto, hzero⟩ := codes_fields 0#4 t.code f.code
    refine ⟨_, Record.bytes_eq_header_cons 3 6 rfl rfl (by decide), hfrom.trans ?source, hto.trans ?destination, hzero⟩
    case source => cases f <;> rfl
    case destination => cases t <;> rfl
  case gap =>
    intro lost e hrange
    refine ⟨_, _, Record.bytes_eq_header_cons 5 4 rfl rfl (by decide), (toNat_loByte_add_hiByte _).trans ?lost⟩
    exact toNat_of_eq_ofNat rfl (by omega)

end Sys2Proof.Machine
end

section
/-! PROOFS. What the tables and the segments read after each operation. -/

namespace Sys2Proof.Machine

/-! ### Updates that leave an accessor alone -/

section
variable (s : State) (m n : EntryNo) (t u : TargetNo) (x y : Segment) (e : Entry) (g : Target)

@[simp] theorem State.entry_setTarget : (s.setTarget t g).entry n = s.entry n := rfl
@[simp] theorem State.entry_mapTargets (f : Target → Target) : (s.mapTargets f).entry n = s.entry n :=
  State.entry_congr (by simp) n
@[simp] theorem State.entry_mapSegs (f : Seg → Seg) : (s.mapSegs f).entry n = s.entry n := rfl
@[simp] theorem State.target_setEntry : (s.setEntry n e).target t = s.target t := rfl
@[simp] theorem State.target_mapEntries (f : EntryNo → Entry → Entry) : (s.mapEntries f).target t = s.target t :=
  State.target_congr (by simp) t
@[simp] theorem State.target_mapSegs (f : Seg → Seg) : (s.mapSegs f).target t = s.target t := rfl
@[simp] theorem State.target_setSeg (h : Seg) : (s.setSeg x h).target t = s.target t := by cases x <;> rfl
@[simp] theorem State.target_modSeg (f : Seg → Seg) : (s.modSeg x f).target t = s.target t := by cases x <;> rfl
@[simp] theorem State.seg_setEntry : (s.setEntry n e).seg x = s.seg x := by cases x <;> rfl
@[simp] theorem State.seg_mapEntries (f : EntryNo → Entry → Entry) : (s.mapEntries f).seg x = s.seg x :=
  State.seg_congr (by simp) (by simp) x
@[simp] theorem State.seg_setTarget : (s.setTarget t g).seg x = s.seg x := by cases x <;> rfl
@[simp] theorem State.seg_mapTargets (f : Target → Target) : (s.mapTargets f).seg x = s.seg x :=
  State.seg_congr (by simp) (by simp) x

variable (result detail code : Byte) (w : Wait) (bs : List Body) (st : EngineState)

@[simp] theorem complete_entry : (complete result detail s).entry n = s.entry n := rfl
@[simp] theorem complete_target : (complete result detail s).target t = s.target t := rfl
@[simp] theorem complete_seg : (complete result detail s).seg x = s.seg x := by cases x <;> rfl
@[simp] theorem completeOk_entry : (completeOk s).entry n = s.entry n := rfl
@[simp] theorem completeOk_target : (completeOk s).target t = s.target t := rfl
@[simp] theorem completeOk_seg : (completeOk s).seg x = s.seg x := by cases x <;> rfl
@[simp] theorem takeCode_entry : (takeCode code s).entry n = s.entry n := rfl
@[simp] theorem takeCode_target : (takeCode code s).target t = s.target t := rfl
@[simp] theorem takeCode_seg : (takeCode code s).seg x = s.seg x := by cases x <;> rfl
@[simp] theorem beginWait_entry : (beginWait w s).entry n = s.entry n := rfl
@[simp] theorem beginWait_target : (beginWait w s).target t = s.target t := rfl
@[simp] theorem beginWait_seg : (beginWait w s).seg x = s.seg x := by cases x <;> rfl
@[simp] theorem notTaken_entry : (notTaken s).entry n = s.entry n := rfl
@[simp] theorem notTaken_target : (notTaken s).target t = s.target t := rfl
@[simp] theorem notTaken_seg : (notTaken s).seg x = s.seg x := by cases x <;> rfl
@[simp] theorem advance_entry : (advance s).entry n = s.entry n := rfl
@[simp] theorem advance_target : (advance s).target t = s.target t := rfl
@[simp] theorem advance_seg : (advance s).seg x = s.seg x := by cases x <;> rfl
@[simp] theorem setHealthFlag_entry : (setHealthFlag s).entry n = s.entry n := rfl
@[simp] theorem setHealthFlag_target : (setHealthFlag s).target t = s.target t := rfl
@[simp] theorem setHealthFlag_seg : (setHealthFlag s).seg x = s.seg x := by cases x <;> rfl
@[simp] theorem setSegerr_entry : (setSegerr s).entry n = s.entry n := rfl
@[simp] theorem setSegerr_target : (setSegerr s).target t = s.target t := rfl
@[simp] theorem setSegerr_seg : (setSegerr s).seg x = s.seg x := by cases x <;> rfl
@[simp] theorem reevaluateLimit_entry : (reevaluateLimit s).entry n = s.entry n := rfl
@[simp] theorem reevaluateLimit_target : (reevaluateLimit s).target t = s.target t := rfl
@[simp] theorem reevaluateLimit_seg : (reevaluateLimit s).seg x = s.seg x := by cases x <;> rfl
@[simp] theorem setBandPending_entry : (setBandPending m s).entry n = s.entry n := rfl
@[simp] theorem setBandPending_target : (setBandPending m s).target t = s.target t := rfl
@[simp] theorem setBandPending_seg : (setBandPending m s).seg x = s.seg x := by cases x <;> rfl
@[simp] theorem clearBandPending_entry : (clearBandPending m s).entry n = s.entry n := rfl
@[simp] theorem clearBandPending_target : (clearBandPending m s).target t = s.target t := rfl
@[simp] theorem clearBandPending_seg : (clearBandPending m s).seg x = s.seg x := by cases x <;> rfl
@[simp] theorem admitRecords_entry : (admitRecords bs s).entry n = s.entry n := rfl
@[simp] theorem admitRecords_target : (admitRecords bs s).target t = s.target t := rfl
@[simp] theorem admitRecords_seg : (admitRecords bs s).seg x = s.seg x := by cases x <;> rfl
@[simp] theorem clearInFlight_target : (clearInFlight m s).target t = s.target t := rfl
@[simp] theorem clearInFlight_seg : (clearInFlight m s).seg x = s.seg x := by cases x <;> rfl
@[simp] theorem releaseEngine_entry : (releaseEngine x st s).entry n = s.entry n := State.entry_congr (by simp) n
@[simp] theorem releaseEngine_target : (releaseEngine x st s).target t = s.target t := State.target_congr (by simp) t
@[simp] theorem ownStop_entry : (ownStop x s).entry n = s.entry n := State.entry_congr (by simp) n
@[simp] theorem ownStop_target : (ownStop x s).target t = s.target t := State.target_congr (by simp) t

@[simp] theorem advance_host : (advance s).host = { s.host with pointer := nextPointer s.host.pointer } := rfl
@[simp] theorem writeCtrl_host (v : Byte) :
    (writeCtrl v s).host = { s.host with resetRequested := s.host.resetRequested || v.getLsbD 0 } := rfl
theorem latchCounter_host (c : ReadByte) : (latchCounter c s).host =
    { s.host with stampLatch := (latchCounter c s).host.stampLatch, fillLatch := (latchCounter c s).host.fillLatch,
                  lossLatch := (latchCounter c s).host.lossLatch } := by cases c <;> rfl
@[simp] theorem takeCode_wait : (takeCode code s).cu.wait = s.cu.wait := rfl
@[simp] theorem beginWait_wait : (beginWait w s).cu.wait = some w := rfl
@[simp] theorem complete_wait : (complete result detail s).cu.wait = none := rfl
@[simp] theorem completeOk_wait : (completeOk s).cu.wait = none := rfl

/-! ### Updates of one entry or segment -/

@[simp] theorem clearInFlight_entry :
    (clearInFlight m s).entry n = if n = m then { s.entry n with inFlight := false } else s.entry n := by
  rw [clearInFlight, State.entry_setEntry]
  split
  · next h => rw [h]
  · rfl

@[simp] theorem releaseEngine_seg : (releaseEngine x st s).seg y =
    if y = x then { s.seg y with engine := { (s.seg y).engine with state := st, work := none, stage := .none, received := [] } }
    else s.seg y := by
  rw [releaseEngine, State.seg_modSeg]; rfl

@[simp] theorem ownStop_seg : (ownStop x s).seg y = if y = x then (s.seg y).ownStop else s.seg y := by
  rw [ownStop, State.seg_modSeg]

/-! ### The lists -/

@[simp] theorem unlist_entry :
    (unlist m s).entry n = if n = m then { s.entry n with due := none } else s.entry n := by
  simp only [unlist, State.entry_setSeg, State.entry_setEntry]
  split
  · next h => rw [h]
  · rfl

@[simp] theorem unlist_target : (unlist m s).target t = s.target t := State.target_congr (by simp) t

@[simp] theorem unlist_seg : (unlist m s).seg y =
    if y = s.entrySegment m then { s.seg y with oneShot := (s.seg y).oneShot.filter (· != m) } else s.seg y := by
  simp only [unlist, State.seg_setSeg, State.seg_setEntry]
  split
  · next h => rw [h]
  · rfl

@[simp] theorem emptyLists_entry :
    (emptyLists x s).entry n = if s.entrySegment n = x then { s.entry n with due := none } else s.entry n := by
  simp only [emptyLists, State.entry_setSeg, State.entry_mapEntries]

@[simp] theorem emptyLists_target : (emptyLists x s).target t = s.target t := State.target_congr (by simp) t

@[simp] theorem emptyLists_seg :
    (emptyLists x s).seg y = if y = x then { s.seg y with oneShot := [] } else s.seg y := by
  simp only [emptyLists, State.seg_setSeg, State.seg_mapEntries]
  split
  · next h => rw [h]
  · rfl

@[simp] theorem unlistTarget_entry :
    (unlistTarget t s).entry n = if (s.entry n).d.target = t then { s.entry n with due := none } else s.entry n := by
  simp only [unlistTarget, State.entry_setSeg, State.entry_mapEntries]

@[simp] theorem unlistTarget_target : (unlistTarget t s).target u = s.target u := State.target_congr (by simp) u

@[simp] theorem unlistTarget_seg : (unlistTarget t s).seg y =
    if y = (s.target t).d.segment
    then { s.seg y with oneShot := (s.seg y).oneShot.filter fun n => (s.entry n).d.target != t } else s.seg y := by
  simp only [unlistTarget, State.seg_setSeg, State.seg_mapEntries]
  split
  · next h => rw [h]
  · rfl

/-! ### Attention and the collector's entries -/

/-- The event of R40 reaches entry n. -/
def State.attends (s : State) (x : Segment) (n : EntryNo) : Bool :=
  ((s.engine x).state != .faulted) && (s.entry n).defined && (s.entry n).d.attention && (s.entrySegment n == x)
    && (s.target (s.entry n).d.target).available

@[simp] theorem attentionEvent_entry : (attentionEvent x s).entry n =
    if s.attends x n = true then { s.entry n with due := some .attention } else s.entry n := by
  unfold attentionEvent State.attends
  by_cases hf : (s.engine x).state = .faulted <;> simp [hf]

@[simp] theorem attentionEvent_target : (attentionEvent x s).target t = s.target t := State.target_congr (by simp) t

@[simp] theorem attentionEvent_seg : (attentionEvent x s).seg y = s.seg y := State.seg_congr (by simp) (by simp) y

@[simp] theorem enterStopped_entry : (enterStopped s).entry n = s.entry n := State.entry_congr (by simp) n
@[simp] theorem enterStopped_target : (enterStopped s).target t = s.target t := State.target_congr (by simp) t
@[simp] theorem enterStopped_seg : (enterStopped s).seg y = s.seg y := State.seg_congr (by simp) (by simp) y

theorem enterStopped_collector : (enterStopped s).collector = .stopped := by
  simp only [enterStopped]; split <;> rfl

/-! ### Loads (R11, R17) -/

variable (c : Option EntryDef) (d : TargetDef)

/-- An entry right after a load (R9, R11): only an entry that is in flight carries anything over from before. -/
def State.loadedEntry (s : State) (c : Option EntryDef) : Entry :=
  { Entry.empty with
    defined := c.isSome, d := c.getD EntryDef.zero
    nextDue := if s.collector = .running ∧ c.isSome
               then s.tickCount + (c.getD EntryDef.zero).phase.setWidth 32 else 0 }

@[simp] theorem applyEntryLoad_entry : (applyEntryLoad m c s).entry n =
    if n = m then { s.loadedEntry c with inFlight := (s.entry n).inFlight } else s.entry n := by
  simp only [applyEntryLoad, reevaluateLimit_entry, clearBandPending_entry, State.entry_setEntry, unlist_entry]
  split
  · next h =>
    subst h
    simp only [State.loadedEntry, Entry.liveReset, Entry.empty]
    split <;> rfl
  · rfl

@[simp] theorem applyEntryLoad_target : (applyEntryLoad m c s).target t = s.target t := State.target_congr (by simp) t

@[simp] theorem applyEntryLoad_seg : (applyEntryLoad m c s).seg y =
    if y = s.entrySegment m then { s.seg y with oneShot := (s.seg y).oneShot.filter (· != m) } else s.seg y := by
  simp [applyEntryLoad]

@[simp] theorem applyTargetLoad_entry : (applyTargetLoad t d s).entry n =
    if d.enabled = false ∧ (s.entry n).d.target = t then { s.entry n with due := none } else s.entry n := by
  cases h : d.enabled <;> simp [applyTargetLoad, h]

@[simp] theorem applyTargetLoad_target : (applyTargetLoad t d s).target u =
    if u = t then Target.loaded d else s.target u := by
  cases h : d.enabled <;> simp [applyTargetLoad, h]

@[simp] theorem applyTargetLoad_seg : (applyTargetLoad t d s).seg y =
    if d.enabled = false ∧ y = (s.target t).d.segment
    then { s.seg y with oneShot := (s.seg y).oneShot.filter fun n => (s.entry n).d.target != t } else s.seg y := by
  cases h : d.enabled <;> simp [applyTargetLoad, h]

end

end Sys2Proof.Machine
end

section
/-! PROOFS. What each command can move, part by part. -/

namespace Sys2Proof.Machine

/-! ### Parts of the state -/

/-- What a Segment Engine's work, and the lists and pending raw transfer beside it, are read from. -/
def Seg.work (g : Seg) : Engine × List EntryNo × Bool := (g.engine, g.oneShot, g.rawPending)

/-- The parts of the state that the laws read, each with the commands that can move it. -/
inductive Part where
  | inReset | pending | freeIndex | mem | queue | port | pointer | framing | byteOut | latches | entries | targets | wait | collector
  | works
  deriving DecidableEq

/-- Part p is the same in two states. -/
def State.same (s t : State) : Part → Prop
  | .inReset => t.inReset = s.inReset
  | .pending => t.pending = s.pending
  | .freeIndex => t.freeIndex = s.freeIndex
  | .mem => t.mem = s.mem
  | .queue => t.queue = s.queue
  | .port => t.port = s.port
  | .pointer => t.host.pointer = s.host.pointer
  | .framing => t.host.framing = s.host.framing ∧ t.host.burstOpen = s.host.burstOpen ∧ t.host.csnLow = s.host.csnLow
  | .byteOut => t.host.byteOut = s.host.byteOut
  | .latches =>
    t.host.stampLatch = s.host.stampLatch ∧ t.host.fillLatch = s.host.fillLatch ∧ t.host.lossLatch = s.host.lossLatch
  | .entries => t.entries = s.entries
  | .targets => t.targets = s.targets
  | .wait => t.cu.wait = s.cu.wait
  | .collector => t.collector = s.collector
  | .works => t.segA.work = s.segA.work ∧ t.segB.work = s.segB.work

/-- The parts that the end of a piece of work can move. -/
def workEndMoves : List Part := [.mem, .queue, .entries, .targets, .wait, .works]

/-- The parts that a reset moves. -/
def resetMoves : List Part :=
  [.mem, .queue, .port, .pointer, .framing, .byteOut, .latches, .entries, .targets, .wait, .collector, .works]

/-- The parts that a command can move; that it moves no other is `exec_same`. -/
def moved : Instr → List Part
  | .hardReset => .inReset :: resetMoves
  | .softResetEffect | .transactionEnd => resetMoves
  | .hardResetEnd => [.inReset, .freeIndex]
  | .transactionOpen => [.framing]
  | .commandByte _ => [.pointer, .framing]
  | .queueDataByteStart => [.port, .pointer, .framing, .byteOut]
  | .queueDataByteComplete => [.queue, .port, .pointer, .byteOut]
  | .snapshotLatch _ => [.pointer, .byteOut, .latches]
  | .softReset _ | .evict _ | .irqPushPull _ | .limitActiveHigh _ | .watermarkLowWrite _ | .watermarkHighWrite _
  | .intFlagsWrite _ | .bandPendingWrite _ | .intEnableWrite _ => [.pointer]
  | .registerWrite _ | .entryFetch | .targetFetch => [.pointer, .mem]
  | .start => [.pointer, .entries, .targets, .wait, .collector, .works]
  | .stop => [.pointer, .entries, .wait, .collector, .works]
  | .entryLoad => [.pointer, .entries, .wait, .works]
  | .targetLoad => [.pointer, .entries, .targets, .wait, .works]
  | .pollNow => [.pointer, .works]
  | .targetRelease => [.pointer, .targets, .queue]
  | .targetHold => [.pointer, .entries, .targets, .queue, .works]
  | .rawTransfer | .abort => [.pointer, .wait, .works]
  | .mark | .flush => [.pointer, .queue]
  | .unknown _ => [.pointer]
  | .collectorEnterRunning => [.entries, .targets, .wait, .collector, .works]
  | .collectorEnterStopped => [.wait, .collector]
  | .tick | .stampCounterAdvance | .backoffExpiry _ => [.targets]
  | .dueTimeEvent _ | .attnFallingEdge _ => [.entries]
  | .attnRearm _ | .lineFall _ _ => []
  | .selectionOccasion _ => [.entries, .wait, .works]
  | .busFree _ _ | .busStopSeen _ | .busBusyTimeout _ | .busClear _ | .busClearSuccess _ => [.works]
  | .foreignStartSeen _ | .stretchTimeout _ _ _ _ | .arbitrationLoss _ | .completion _ _ | .deferredLoadEnd _ _
  | .rawTransferCompletion _ _ => workEndMoves
  | .busClearFail _ _ => .collector :: workEndMoves

theorem State.same.seg_work {s t : State} (h : s.same t .works) (x : Segment) : (t.seg x).work = (s.seg x).work := by
  cases x
  · exact h.1
  · exact h.2

section
variable {s t u : State} {p : Part} {f : State → State} {c : Bool} {a : RegAddr} {code : Byte}

theorem ne_of_not_mem {q : Part} {l : List Part} (hq : l.contains q = true) (hp : p ∉ l) : p ≠ q := by
  rintro rfl
  exact hp (by simpa using hq)

theorem State.same.refl (s : State) (p : Part) : s.same s p := by cases p <;> simp [State.same]

theorem State.same.trans (h : s.same t p) (h' : t.same u p) : s.same u p := by
  cases p <;> simp_all [State.same]

theorem State.same.ite {b : Prop} [Decidable b] (ht : s.same t p) (hu : s.same u p) : s.same (if b then t else u) p := by
  split <;> assumption

theorem whenever_same (h : s.same (f s) p) : s.same (whenever c f s) p := by
  cases c
  · exact .refl s p
  · exact h

theorem running_same (hf : s.same (f s) p) (h : running s f = .next t) : s.same t p := by
  rcases running_cases h with ⟨-, rfl⟩ | ⟨-, rfl⟩
  · exact .refl t p
  · exact hf

theorem advance_same (hp : p ≠ .pointer) : s.same (advance s) p := by
  cases p <;> simp_all [State.same]

/-- A byte written moves the pointer, and what its effect moves. -/
theorem writeByte_same (hp : p ≠ .pointer) (hf : s.same (f s) p) (h : writeByte a f s = .next t) : s.same t p := by
  rcases writeByte_cases h with rfl | ⟨-, rfl⟩
  · exact .refl t p
  · exact hf.trans (advance_same hp)

theorem command_same (hp : p ≠ .pointer) (hf : ∀ s : State, s.cu.wait = none → s.same (f s) p)
    (h : command code f s = .next t) :
    s.same t p := by
  rcases command_cases h with rfl | ⟨htakes, rfl⟩ | ⟨-, -, rfl⟩
  · exact .refl t p
  · exact .trans (by cases p <;> simp [State.same]) ((hf (takeCode code s) htakes.2).trans (advance_same hp))
  · exact .trans (by cases p <;> simp [State.same]) (advance_same hp)

theorem finishWork_same (x : Segment) (w : Work) (o : WorkOutcome) (data : List Byte) (st : EngineState)
    (hp : p ∉ workEndMoves) : s.same (finishWork x w o data st s) p := by
  cases p <;> simp_all [State.same, workEndMoves]

theorem runToStop_same (x : Segment) (w : Work) (resp : WireResponse) (hp : p ∉ workEndMoves) :
    s.same (runToStop x w resp s) p := by
  cases p <;> simp_all [State.same, workEndMoves]

theorem loseArbitration_same (x : Segment) (w : Work) (hp : p ∉ workEndMoves) : s.same (loseArbitration x w s) p := by
  cases p <;> simp_all [State.same, workEndMoves]

/-- A segment alone is rewritten. -/
theorem modSeg_same (x : Segment) (g : Seg → Seg) (hp : p ≠ .works) : s.same (s.modSeg x g) p := by
  cases p <;> simp_all [State.same]

theorem softReset_same (hp : p ∉ resetMoves) : s.same (softReset s) p := by
  cases p <;> simp_all [State.same, resetMoves, softReset]

theorem endTransaction_same (hp : p ∉ resetMoves) : s.same (endTransaction s) p := by
  unfold endTransaction
  exact .ite (.trans (by cases p <;> simp_all [State.same, resetMoves]) (softReset_same hp))
    (by cases p <;> simp_all [State.same, resetMoves])

theorem storeReg_same (b : Nat) (v : Byte) (hp : p ≠ .mem) : s.same (storeReg b v s) p := by
  unfold storeReg
  split <;> try split
  all_goals cases p <;> simp_all [State.same, Seg.work]

theorem emptyLists_same (x : Segment) (hp : p ≠ .entries ∧ p ≠ .works) : s.same (emptyLists x s) p := by
  cases p <;> simp_all [State.same]

theorem holdTarget_same (k : TargetNo) (hp : p ∉ [.entries, .targets, .queue, .works]) :
    s.same (holdTarget k s) p := by
  cases p <;> simp_all [State.same, holdTarget]

theorem releaseTarget_same (k : TargetNo) (hp : p ≠ .targets ∧ p ≠ .queue) : s.same (releaseTarget k s) p := by
  cases p <;> simp_all [State.same, releaseTarget]

/-- A command that completes at the event at which it is taken leaves the unit READY, as it was. -/
theorem complete_same (r d : Byte) (hw : s.cu.wait = none) : s.same (complete r d s) p := by
  cases p <;> simp_all [State.same]

theorem setMem_complete_same (m : Memory) (hp : p ≠ .mem) (hw : s.cu.wait = none) :
    s.same (completeOk { s with mem := m }) p :=
  .trans (t := { s with mem := m }) (by cases p <;> simp_all [State.same]) (complete_same resOk 0 hw)

theorem onEnabledTarget_same {f : TargetNo → State → State} (hw : s.cu.wait = none) (hf : ∀ k, s.same (f k s) p)
    (hwait : ∀ k, (f k s).cu.wait = s.cu.wait) : s.same (onEnabledTarget f s) p := by
  unfold onEnabledTarget
  split
  · exact complete_same _ _ hw
  · exact .ite ((hf _).trans (complete_same _ _ ((hwait _).trans hw))) (complete_same _ _ hw)

end

/-! ### One lemma per command with cases of its own -/

section
variable {s t : State} {p : Part}

theorem execStart_same (hp : p ∉ moved .start) (h : execStart s = .next t) : s.same t p := by
  refine command_same (ne_of_not_mem rfl hp) (fun s hw => .ite (complete_same _ _ hw) ?_) h
  dsimp only
  split <;> cases p <;> simp_all [State.same, moved]

theorem execStop_same (hp : p ∉ moved .stop) (h : execStop s = .next t) : s.same t p := by
  refine command_same (ne_of_not_mem rfl hp) (fun s hw => .ite (complete_same _ _ hw) ?_) h
  dsimp only
  split <;> cases p <;> simp_all [State.same, moved]

theorem execEntryLoad_same (hp : p ∉ moved .entryLoad) (h : execEntryLoad s = .next t) : s.same t p := by
  refine command_same (ne_of_not_mem rfl hp) (fun s hw => ?_) h
  split
  · exact complete_same _ _ hw
  · refine .ite (complete_same _ _ hw) (.ite ?_ ?_) <;> cases p <;> simp_all [State.same, moved]

theorem execTargetLoad_same (hp : p ∉ moved .targetLoad) (h : execTargetLoad s = .next t) : s.same t p := by
  refine command_same (ne_of_not_mem rfl hp) (fun s hw => ?_) h
  split
  · exact complete_same _ _ hw
  · refine .ite (complete_same _ _ hw) (.ite (complete_same _ _ hw) (.ite ?_ ?_)) <;>
      cases p <;> simp_all [State.same, moved]

theorem execEntryFetch_same (hp : p ∉ moved .entryFetch) (h : execEntryFetch s = .next t) : s.same t p := by
  refine command_same (ne_of_not_mem rfl hp) (fun s hw => ?_) h
  split
  · exact complete_same _ _ hw
  · exact setMem_complete_same _ (ne_of_not_mem rfl hp) hw

theorem execTargetFetch_same (hp : p ∉ moved .targetFetch) (h : execTargetFetch s = .next t) : s.same t p := by
  refine command_same (ne_of_not_mem rfl hp) (fun s hw => ?_) h
  split
  · exact complete_same _ _ hw
  · exact setMem_complete_same _ (ne_of_not_mem rfl hp) hw

theorem execPollNow_same (hp : p ∉ moved .pollNow) (h : execPollNow s = .next t) : s.same t p := by
  refine command_same (ne_of_not_mem rfl hp) (fun s hw => ?_) h
  split
  · exact complete_same _ _ hw
  · refine .ite (complete_same _ _ hw) (.ite (complete_same _ _ hw) (.ite (complete_same _ _ hw) ?_))
    exact (modSeg_same _ _ (ne_of_not_mem rfl hp)).trans (complete_same _ _ (by simpa using hw))

theorem execTargetHold_same (hp : p ∉ moved .targetHold) (h : execTargetHold s = .next t) : s.same t p := by
  refine command_same (ne_of_not_mem rfl hp) (fun s hw => onEnabledTarget_same hw ?same ?wait) h
  case same =>
    refine fun k => .ite (.refl s p) (holdTarget_same k fun hmem => ?_)
    fin_cases hmem <;> exact ne_of_not_mem rfl hp rfl
  case wait =>
    intro k
    split <;> simp [holdTarget]

theorem execTargetRelease_same (hp : p ∉ moved .targetRelease) (h : execTargetRelease s = .next t) :
    s.same t p := by
  refine command_same (ne_of_not_mem rfl hp) (fun s hw => onEnabledTarget_same hw ?same ?wait) h
  case same => exact fun k => .ite (.refl s p) (releaseTarget_same k ⟨ne_of_not_mem rfl hp, ne_of_not_mem rfl hp⟩)
  case wait =>
    intro k
    split <;> simp [releaseTarget]

theorem execRawTransfer_same (hp : p ∉ moved .rawTransfer) (h : execRawTransfer s = .next t) : s.same t p := by
  refine command_same (ne_of_not_mem rfl hp) (fun s hw =>
    .ite (complete_same _ _ hw) (.ite (complete_same _ _ hw) (.ite (complete_same _ _ hw) ?_))) h
  cases p <;> simp_all [State.same, moved]

theorem execMark_same (hp : p ∉ moved .mark) (h : execMark s = .next t) : s.same t p := by
  refine command_same (ne_of_not_mem rfl hp) (fun s hw => .trans ?_ (complete_same _ _ (by exact hw))) h
  cases p <;> simp_all [State.same, moved]

theorem execFlush_same (hp : p ∉ moved .flush) (h : execFlush s = .next t) : s.same t p := by
  refine command_same (ne_of_not_mem rfl hp) (fun s hw => .trans ?_ (complete_same _ _ (by exact hw))) h
  cases p <;> simp_all [State.same, moved]

theorem execAbort_same (hp : p ∉ moved .abort) (h : execAbort s = .next t) : s.same t p := by
  refine writeByte_same (ne_of_not_mem rfl hp) ?_ h
  unfold abortBody
  split <;> cases p <;> simp_all [State.same, moved]

theorem execUnknown_same (code : Byte) (hp : p ∉ moved (.unknown code)) (h : execUnknown code s = .next t) :
    s.same t p := by
  unfold execUnknown at h
  split at h
  · cases h; exact .refl s p
  · exact command_same (ne_of_not_mem rfl hp) (fun s hw => complete_same _ _ hw) h

theorem execSnapshotLatch_same (c : ReadByte) (hp : p ∉ moved (.snapshotLatch c))
    (h : execSnapshotLatch c s = .next t) : s.same t p := by
  refine running_same ?_ h
  split
  · exact .refl s p
  · cases p <;> simp_all [State.same, moved]
    rw [latchCounter_host]
    simp

theorem execQueueDataByteComplete_same (hp : p ∉ moved .queueDataByteComplete)
    (h : execQueueDataByteComplete s = .next t) : s.same t p := by
  refine running_same ?_ h
  split
  · exact .refl s p
  · dsimp only
    split <;> cases p <;> simp_all [State.same, moved]

theorem execAttnFallingEdge_same (x : Segment) (hp : p ∉ moved (.attnFallingEdge x))
    (h : execAttnFallingEdge x s = .next t) : s.same t p := by
  cases h
  have hfall : s.same (s.modSeg x fun g => { g with attnHigh := false, attnArmed := false }) p := by
    cases p <;> simp_all [State.same]
    cases x <;> exact ⟨rfl, rfl⟩
  exact .ite (hfall.trans (by cases p <;> simp_all [State.same, moved])) hfall

theorem execSelectionOccasion_same (x : Segment) (hp : p ∉ moved (.selectionOccasion x))
    (h : execSelectionOccasion x s = .next t) : s.same t p := by
  refine running_same (whenever_same ?_) h
  split <;> cases p <;> simp_all [State.same, moved]

theorem execForeignStartSeen_same (x : Segment) (hp : p ∉ moved (.foreignStartSeen x))
    (h : execForeignStartSeen x s = .next t) : s.same t p := by
  refine running_same (whenever_same ?_) h
  have hseg := fun g => modSeg_same (s := s) (p := p) x g (ne_of_not_mem rfl hp)
  dsimp only
  split
  · exact .ite ((hseg _).trans (loseArbitration_same x _ hp)) (hseg _)
  · exact hseg _

theorem execBusClearFail_same (r : ClearRun) (left : LeftLow) (hp : p ∉ moved (.busClearFail r left))
    (h : execBusClearFail r left s = .next t) : s.same t p := by
  have hend : p ∉ workEndMoves := List.not_mem_of_not_mem_cons hp
  have hcollector : p ≠ .collector := ne_of_not_mem rfl hp
  refine running_same (whenever_same ?_) h
  have hlists (g) : s.same (emptyLists r.segment (s.modSeg r.segment g)) p := by
    cases p <;> simp_all [State.same, workEndMoves]
  have hwork (u : State) : u.same (match (s.engine r.segment).work with
      | some w => finishWork r.segment w .busStuck [] .faulted u
      | none => releaseEngine r.segment .faulted u) p := by
    split
    · exact finishWork_same _ _ _ _ _ hend
    · cases p <;> simp_all [State.same, workEndMoves]
  have hreport (u : State) : u.same (setSegerr (admitRecords [busStuckRecord r.segment] (withdrawRaw r.segment u))) p := by
    cases p <;> simp_all [State.same, workEndMoves]
  have hstop (u : State) : u.same (enterStopped u) p := by cases p <;> simp_all [State.same, workEndMoves]
  have hfailed := ((hlists (Seg.clearFailed r left (Config.unitsPerTick * (s.engine r.segment).latched.stretch)
    s.elapsed)).trans (hwork _)).trans (hreport _)
  exact .ite (hfailed.trans (hstop _)) hfailed

theorem execStretchTimeout_same (x : Segment) (l : LineName) (k : Nat) (held : HeldTransfer)
    (hp : p ∉ moved (.stretchTimeout x l k held)) (h : execStretchTimeout x l k held s = .next t) :
    s.same t p := by
  refine running_same ?_ h
  split
  · exact .ite ((modSeg_same x _ (ne_of_not_mem rfl hp)).trans (finishWork_same _ _ _ _ _ hp)) (.refl s p)
  · exact .refl s p

theorem execArbitrationLoss_same (x : Segment) (hp : p ∉ moved (.arbitrationLoss x))
    (h : execArbitrationLoss x s = .next t) : s.same t p := by
  refine running_same ?_ h
  split
  · exact .ite (loseArbitration_same x _ hp) (.refl s p)
  · exact .refl s p

theorem execCompletion_same (x : Segment) (w : WireResponse) (hp : p ∉ moved (.completion x w))
    (h : execCompletion x w s = .next t) : s.same t p := by
  refine running_same ?_ h
  split
  · exact runToStop_same x _ w hp
  · exact .refl s p
  · exact .refl s p

theorem execDeferredLoadEnd_same (x : Segment) (w : WireResponse) (hp : p ∉ moved (.deferredLoadEnd x w))
    (h : execDeferredLoadEnd x w s = .next t) : s.same t p := by
  refine running_same ?_ h
  split
  · exact .ite (runToStop_same x _ w hp) (.refl s p)
  · exact .refl s p
  · exact .refl s p

theorem execRawTransferCompletion_same (x : Segment) (w : WireResponse)
    (hp : p ∉ moved (.rawTransferCompletion x w)) (h : execRawTransferCompletion x w s = .next t) :
    s.same t p := by
  refine running_same ?_ h
  split
  · exact runToStop_same x _ w hp
  · exact .refl s p
  · exact .refl s p

theorem execHardResetEnd_same (hp : p ∉ moved .hardResetEnd) (h : execHardResetEnd s = .next t) :
    s.same t p := by
  cases h
  exact whenever_same (by cases p <;> simp_all [State.same, moved, Seg.released, Seg.work])

/-- A line, a level or an edge detector moves no work. -/
theorem modSeg_same_of_work (x : Segment) (g : Seg → Seg) (hg : ∀ y, (g y).work = y.work) : s.same (s.modSeg x g) p := by
  by_cases hp : p = .works
  · subst hp
    cases x
    · exact ⟨hg _, rfl⟩
    · exact ⟨rfl, hg _⟩
  · exact modSeg_same x g hp

end

/-! ### Every command -/

/-- Whatever a command does, the parts it does not move are the same. -/
theorem exec_same_of_not_mem {i : Instr} {s t : State} {p : Part} (h : exec i s = .next t) (hp : p ∉ moved i) :
    s.same t p := by
  cases i with
  | hardReset => cases h; cases p <;> simp_all [State.same, moved, resetMoves]
  | transactionEnd | softResetEffect =>
    cases h
    exact whenever_same (endTransaction_same hp)
  | hardResetEnd => exact execHardResetEnd_same hp h
  | transactionOpen =>
    cases h
    exact whenever_same (by cases p <;> simp_all [State.same, moved])
  | commandByte b | queueDataByteStart =>
    exact running_same (whenever_same (by cases p <;> simp_all [State.same, moved])) h
  | bandPendingWrite v =>
    have hclear (i : Nat) : s.same (advance (clearPendingByte i v s)) p :=
      .trans (by cases p <;> simp [State.same]) (advance_same (ne_of_not_mem rfl hp))
    exact running_same (whenever_same (hclear _)) h
  | softReset v | evict v | irqPushPull v | limitActiveHigh v | watermarkLowWrite v | watermarkHighWrite v
  | intFlagsWrite v | intEnableWrite v =>
    exact writeByte_same (ne_of_not_mem rfl hp) (by cases p <;> simp [State.same]) h
  | registerWrite v =>
    exact running_same (whenever_same ((storeReg_same _ v (ne_of_not_mem rfl hp)).trans
      (advance_same (ne_of_not_mem rfl hp)))) h
  | snapshotLatch c => exact execSnapshotLatch_same c hp h
  | queueDataByteComplete => exact execQueueDataByteComplete_same hp h
  | start => exact execStart_same hp h
  | stop => exact execStop_same hp h
  | entryLoad => exact execEntryLoad_same hp h
  | targetLoad => exact execTargetLoad_same hp h
  | entryFetch => exact execEntryFetch_same hp h
  | targetFetch => exact execTargetFetch_same hp h
  | pollNow => exact execPollNow_same hp h
  | targetHold => exact execTargetHold_same hp h
  | targetRelease => exact execTargetRelease_same hp h
  | rawTransfer => exact execRawTransfer_same hp h
  | mark => exact execMark_same hp h
  | flush => exact execFlush_same hp h
  | abort => exact execAbort_same hp h
  | unknown code => exact execUnknown_same code hp h
  | collectorEnterRunning | collectorEnterStopped | tick | backoffExpiry k | dueTimeEvent n =>
    exact running_same (whenever_same (by cases p <;> simp_all [State.same, moved])) h
  | stampCounterAdvance =>
    exact running_same (by cases p <;> simp_all [State.same, moved]) h
  | attnFallingEdge x => exact execAttnFallingEdge_same x hp h
  | attnRearm x => cases h; exact modSeg_same_of_work x _ fun _ => rfl
  | lineFall x l => cases h; exact modSeg_same_of_work x _ fun _ => by cases l <;> rfl
  | busFree x l => cases h; exact modSeg_same x _ (ne_of_not_mem rfl hp)
  | busStopSeen x | busBusyTimeout x | busClear x =>
    exact running_same (whenever_same (modSeg_same x _ (ne_of_not_mem rfl hp))) h
  | busClearSuccess r =>
    change execBusClearSuccess r s = _ at h
    exact running_same (whenever_same ((modSeg_same _ _ (ne_of_not_mem rfl hp)).trans
      (modSeg_same _ _ (ne_of_not_mem rfl hp)))) h
  | selectionOccasion x => exact execSelectionOccasion_same x hp h
  | foreignStartSeen x => exact execForeignStartSeen_same x hp h
  | busClearFail r left => exact execBusClearFail_same r left hp h
  | stretchTimeout x l k held => exact execStretchTimeout_same x l k held hp h
  | arbitrationLoss x => exact execArbitrationLoss_same x hp h
  | completion x w => exact execCompletion_same x w hp h
  | deferredLoadEnd x w => exact execDeferredLoadEnd_same x w hp h
  | rawTransferCompletion x w => exact execRawTransferCompletion_same x w hp h

/-- `exec_same_of_not_mem` for a command that is given, where `rfl` finds that it does not move the part. -/
theorem exec_same {i : Instr} {s t : State} {p : Part} (h : exec i s = .next t) (hp : (moved i).contains p = false) :
    s.same t p :=
  exec_same_of_not_mem h (by simpa using hp)

end Sys2Proof.Machine
end

section
/-! PROOFS. One step: the front command runs, every command answers a next state, and what every command keeps every step
keeps. -/

namespace Sys2Proof.Machine

/-- No command ends in a fault or a refusal. -/
theorem exec_next (c : Instr) (s : State) : ∃ t, exec c s = .next t := by
  cases c with
  | unknown code =>
    change ∃ t, execUnknown code s = .next t
    unfold execUnknown
    split <;> exact ⟨_, rfl⟩
  | _ => exact ⟨_, rfl⟩

/-- Settles O1: each clause is an equation of `step`. -/
theorem stepRunsTheFrontCommand : Obligations.StepRunsTheFrontCommand := by
  refine ⟨fun _ _ _ => rfl, fun s hs => ?_⟩
  unfold step
  rw [hs]

/-- Settles O2: the outcome by `exec_next`, the frame by `exec_same`. -/
theorem everyCommandAnswersANextState : Obligations.EveryCommandAnswersANextState := by
  intro c s
  obtain ⟨t, ht⟩ := exec_next c s
  refine ⟨t, ht, exec_same (p := .pending) ht ?_, fun hc => exec_same (p := .freeIndex) ht ?_⟩
  · cases c <;> rfl
  · cases c with
    | hardResetEnd => exact absurd rfl hc
    | _ => rfl

/-- A law that does not read the commands that wait, and that every command keeps, every step keeps. -/
theorem step_keeps {L : State → Prop} (hpending : ∀ s rest, L s → L { s with pending := rest })
    (hexec : ∀ c s t, L s → exec c s = .next t → L t) {s t : State} (hs : L s) (h : step s = .next t) : L t := by
  unfold step at h
  split at h
  · cases h; exact hs
  · exact hexec _ _ _ (hpending s _ hs) h

end Sys2Proof.Machine
end

section
/-! PROOFS. What a command that can end work does (R57 to R65). -/

namespace Sys2Proof.Machine

/-! ### The operations, each by what it hands to finishWork -/

theorem State.modSeg_modSeg (x : Segment) (f g : Seg → Seg) (s : State) :
    (s.modSeg x f).modSeg x g = s.modSeg x fun y => g (f y) := by
  cases x <;> rfl

/-- The end of work overwrites what the engine has received. -/
theorem finishWork_received (x : Segment) (w : Work) (o : WorkOutcome) (data received : List Byte) (st : EngineState)
    (f : Seg → Seg) (s : State) :
    finishWork x w o data st (s.modSeg x fun g => (f g).withEngine fun e => { e with received := received })
      = finishWork x w o data st (s.modSeg x f) := by
  have hrelease : releaseEngine x st (s.modSeg x fun g => (f g).withEngine fun e => { e with received := received })
      = releaseEngine x st (s.modSeg x f) := by
    simp only [releaseEngine, State.modSeg_modSeg, Seg.withEngine]
  simp only [finishWork, hrelease]

theorem runToStop_eq (x : Segment) (w : Work) (resp : WireResponse) (s : State) : runToStop x w resp s =
    finishWork x w (w.xfer.outcome resp.acks (w.xfer.receive resp)) ((w.xfer.receive resp).take w.xfer.reads) .idle
      (ownStop x s) := by
  have hreceived : (((ownStop x s).modSeg x fun g =>
      g.withEngine fun e => { e with received := w.xfer.receive resp }).engine x).received = w.xfer.receive resp := by
    simp [State.engine, Seg.withEngine]
  simp only [runToStop, hreceived]
  exact (congrArg _ (State.modSeg_modSeg x _ _ s)).trans (finishWork_received x w _ _ _ _ Seg.ownStop s)

/-- An engine that loses arbitration once more and goes on (R61). -/
def Seg.lostOnce (now : Nat) (g : Seg) : Seg :=
  g.withEngine fun e => { e with retries := e.retries + 1, received := [], stage := .arbWait, waitSince := now }

/-- An engine that loses arbitration for the last time (R61). -/
def Seg.lostLast (now : Nat) (g : Seg) : Seg :=
  g.withEngine fun e => { e with retries := e.retries + 1, waitSince := now }

theorem loseArbitration_of_lt {x : Segment} {w : Work} {s : State} (h : (s.engine x).retries < 2) :
    loseArbitration x w s = s.modSeg x (Seg.lostOnce s.elapsed) := by
  simp only [loseArbitration, State.engine, State.seg_modSeg, Seg.withEngine, if_true]
  rw [if_pos (by unfold State.engine at h; omega)]
  rfl

theorem loseArbitration_of_le {x : Segment} {w : Work} {s : State} (h : 2 ≤ (s.engine x).retries) :
    loseArbitration x w s = finishWork x w .arbLost [] .idle (s.modSeg x (Seg.lostLast s.elapsed)) := by
  simp only [loseArbitration, State.engine, State.seg_modSeg, Seg.withEngine, if_true]
  rw [if_neg (by unfold State.engine at h; omega)]
  have hrelease : releaseEngine x .idle (s.modSeg x (Seg.lostOnce s.elapsed))
      = releaseEngine x .idle (s.modSeg x (Seg.lostLast s.elapsed)) := by
    simp only [releaseEngine, State.modSeg_modSeg, Seg.withEngine, Seg.lostOnce, Seg.lostLast]
  change finishWork x w .arbLost [] .idle (s.modSeg x (Seg.lostOnce s.elapsed)) = _
  simp only [finishWork, hrelease]

/-- The work an engine held in a bus clear ends, where it held some, and the engine is FAULTED (R65). -/
def endStuckWork (x : Segment) (w : Option Work) (s : State) : State :=
  match w with
  | some w => finishWork x w .busStuck [] .faulted s
  | none => releaseEngine x .faulted s

/-- A segment whose bus clear has failed, but for the drain that may end with it (R65). -/
def faultSegment (x : Segment) (lines : Seg → Seg) (s : State) : State :=
  setSegerr (admitRecords [busStuckRecord x] (withdrawRaw x
    (endStuckWork x (s.engine x).work (emptyLists x (s.modSeg x lines)))))

/-- A drain that waited for this alone ends (R67). -/
def endDrain (s : State) : State := if s.collector = .stopping ∧ s.drained then enterStopped s else s

theorem execBusClearFail_eq (r : ClearRun) (left : LeftLow) (s : State) : execBusClearFail r left s =
    running s (whenever (((s.engine r.segment).state == .clearing) && s.clearFails r left) fun s =>
      endDrain (faultSegment r.segment
        (Seg.clearFailed r left (Config.unitsPerTick * (s.engine r.segment).latched.stretch) s.elapsed) s)) := by
  unfold execBusClearFail endDrain faultSegment endStuckWork
  rfl

/-! ### One description for all of them -/

/-- A segment whose lines, counts and bus-busy indication alone differ: its lists, its work and its engine's state stay. -/
def Seg.keepsWork (g h : Seg) : Prop :=
  h.oneShot = g.oneShot ∧ h.rawPending = g.rawPending ∧ h.engine.work = g.engine.work ∧ h.engine.state = g.engine.state

/-- The commands that can end a piece of work. -/
def endsWork : Instr → Bool
  | .completion _ _ | .deferredLoadEnd _ _ | .rawTransferCompletion _ _ | .stretchTimeout _ _ _ _ | .arbitrationLoss _
  | .foreignStartSeen _ | .busClearFail _ _ => true
  | _ => false

/-- What a command that can end work makes of a state: nothing; work that goes on, on the wire or after a loss of
arbitration; work that ends and leaves its engine IDLE; or a segment that is FAULTED. -/
inductive WorkEvent (s : State) : State → Prop
  | nothing : WorkEvent s s
  | goesOn (x : Segment) (g : Seg → Seg) (hg : (s.seg x).keepsWork (g (s.seg x)))
      (hstage : ((g (s.seg x)).engine.stage = (s.engine x).stage ∧ (g (s.seg x)).engine.retries = (s.engine x).retries)
        ∨ (((s.engine x).stage = .onWire ∨ (s.engine x).stage = .stopGap) ∧ (s.engine x).retries < 2
          ∧ (g (s.seg x)).engine.stage = .arbWait ∧ (g (s.seg x)).engine.retries = (s.engine x).retries + 1)) :
      WorkEvent s (s.modSeg x g)
  | ends (x : Segment) (w : Work) (o : WorkOutcome) (data : List Byte) (g : Seg → Seg)
      (hg : (s.seg x).keepsWork (g (s.seg x))) (hwork : (s.engine x).work = some w)
      (hstage : (s.engine x).stage = .onWire ∨ (s.engine x).stage = .stopGap)
      (hretries : (g (s.seg x)).engine.retries ≤ (s.engine x).retries + 1) (hdata : data.length ≤ w.xfer.reads) :
      WorkEvent s (finishWork x w o data .idle (s.modSeg x g))
  | faults (x : Segment) (g : Seg → Seg) (hg : (s.seg x).keepsWork (g (s.seg x)))
      (hretries : (g (s.seg x)).engine.retries = (s.engine x).retries) (hstate : (s.engine x).state = .clearing) :
      WorkEvent s (endDrain (faultSegment x g s))

section
variable {s t : State} {x : Segment} {w : Work}

theorem Seg.keepsWork_giveUp (line : LineName) (waited : Nat) (h : HeldTransfer) (inGap : Bool) (limit now : Nat)
    (g : Seg) : g.keepsWork (g.giveUp line waited h inGap limit now)
      ∧ (g.giveUp line waited h inGap limit now).engine.retries = g.engine.retries := by
  rcases g.giveUp_cases line waited h inGap limit now with ⟨-, hg⟩ | ⟨-, -, hg⟩ | ⟨-, -, -, hg⟩ | ⟨-, -, -, hg⟩ <;> rw [hg]
  iterate 4 exact ⟨⟨rfl, rfl, rfl, rfl⟩, rfl⟩

theorem State.workOnWire_eq_some (h : s.workOnWire x = some w) :
    (s.engine x).work = some w ∧ ((s.engine x).stage = .onWire ∨ (s.engine x).stage = .stopGap) := by
  unfold State.workOnWire at h
  split at h
  · next hstage => exact ⟨h, hstage⟩
  · cases h

theorem State.workToStop_eq_some (h : s.workToStop x = some w) :
    (s.engine x).work = some w ∧ ((s.engine x).stage = .onWire ∨ (s.engine x).stage = .stopGap) := by
  unfold State.workToStop at h
  split at h
  · next hstage => exact ⟨h, hstage.imp_right And.left⟩
  · cases h

theorem workEvent_runToStop (resp : WireResponse) (h : s.workToStop x = some w) : WorkEvent s (runToStop x w resp s) := by
  obtain ⟨hwork, hstage⟩ := State.workToStop_eq_some h
  rw [runToStop_eq]
  exact .ends x w _ _ Seg.ownStop ⟨rfl, rfl, rfl, rfl⟩ hwork hstage (Nat.le_succ _) (List.length_take_le _ _)

theorem workEvent_loseArbitration (f : Seg → Seg) (hf : (s.seg x).keepsWork (f (s.seg x)))
    (hretries : (f (s.seg x)).engine.retries = (s.engine x).retries) (hwork : (s.engine x).work = some w)
    (hstage : (s.engine x).stage = .onWire ∨ (s.engine x).stage = .stopGap) :
    WorkEvent s (loseArbitration x w (s.modSeg x f)) := by
  have hengine : ((s.modSeg x f).engine x).retries = (s.engine x).retries := by
    simpa [State.engine] using hretries
  by_cases hlt : (s.engine x).retries < 2
  · rw [loseArbitration_of_lt (hengine ▸ hlt), State.modSeg_modSeg]
    exact .goesOn x _ hf (.inr ⟨hstage, hlt, rfl, congrArg (· + 1) hretries⟩)
  · rw [loseArbitration_of_le (hengine ▸ Nat.le_of_not_lt hlt), State.modSeg_modSeg]
    exact .ends x w _ _ _ hf hwork hstage (Nat.le_of_eq (congrArg (· + 1) hretries)) (Nat.zero_le _)

theorem running_workEvent {f : State → State} (hf : WorkEvent s (f s)) (h : running s f = .next t) : WorkEvent s t := by
  rcases running_cases h with ⟨-, rfl⟩ | ⟨-, rfl⟩
  · exact .nothing
  · exact hf

theorem execStretchTimeout_workEvent {l : LineName} {k : Nat} {held : HeldTransfer}
    (h : execStretchTimeout x l k held s = .next t) : WorkEvent s t := by
  refine running_workEvent ?_ h
  split
  · next w hw =>
    dsimp only
    split
    · obtain ⟨hwork, hstage⟩ := State.workOnWire_eq_some hw
      obtain ⟨hkeeps, hretries⟩ := Seg.keepsWork_giveUp l k held (s.waitsInGap x w held)
        (Config.unitsPerTick * (s.engine x).latched.stretch) s.elapsed (s.seg x)
      exact .ends x w _ _ _ hkeeps hwork hstage (hretries.trans_le (Nat.le_succ _)) (Nat.zero_le _)
    · exact .nothing
  · exact .nothing

theorem execForeignStartSeen_workEvent (h : execForeignStartSeen x s = .next t) : WorkEvent s t := by
  refine running_workEvent ?_ h
  unfold whenever
  split
  · dsimp only
    split
    · next w hw =>
      split
      · next hgap => exact workEvent_loseArbitration _ ⟨rfl, rfl, rfl, rfl⟩ rfl hw (.inr hgap.1)
      · exact .goesOn x _ ⟨rfl, rfl, rfl, rfl⟩ (.inl ⟨rfl, rfl⟩)
    · exact .goesOn x _ ⟨rfl, rfl, rfl, rfl⟩ (.inl ⟨rfl, rfl⟩)
  · exact .nothing

/-- Every command that can end work is a work event. -/
theorem exec_workEvent {c : Instr} (hc : endsWork c = true) (h : exec c s = .next t) : WorkEvent s t := by
  cases c with
  | completion x w =>
    change execCompletion x w s = _ at h
    refine running_workEvent ?_ h
    split
    · next p hp => exact workEvent_runToStop w hp
    · exact .nothing
    · exact .nothing
  | deferredLoadEnd x w =>
    change execDeferredLoadEnd x w s = _ at h
    refine running_workEvent ?_ h
    split
    · next p hp =>
      split
      · exact workEvent_runToStop w hp
      · exact .nothing
    · exact .nothing
    · exact .nothing
  | rawTransferCompletion x w =>
    change execRawTransferCompletion x w s = _ at h
    refine running_workEvent ?_ h
    split
    · next r hr => exact workEvent_runToStop w hr
    · exact .nothing
    · exact .nothing
  | stretchTimeout x l k held => exact execStretchTimeout_workEvent h
  | arbitrationLoss x =>
    change execArbitrationLoss x s = _ at h
    refine running_workEvent ?_ h
    split
    · next w hw =>
      obtain ⟨hwork, hstage⟩ := State.workOnWire_eq_some hw
      split
      · have hmod : s = s.modSeg x id := by cases x <;> rfl
        conv => arg 2; rw [hmod]
        exact workEvent_loseArbitration id ⟨rfl, rfl, rfl, rfl⟩ rfl hwork hstage
      · exact .nothing
    · exact .nothing
  | foreignStartSeen x => exact execForeignStartSeen_workEvent h
  | busClearFail r left =>
    change execBusClearFail r left s = _ at h
    rw [execBusClearFail_eq] at h
    refine running_workEvent ?_ h
    unfold whenever
    split
    · next hfails =>
      have hclearing : (s.engine r.segment).state = .clearing := by simp_all
      exact .faults r.segment _ ⟨rfl, rfl, rfl, rfl⟩ rfl hclearing
    · exact .nothing
  | _ => cases hc

end

/-! ### Laws of the storage and of the queue -/

/-- What the end of work keeps, and the BUS_STUCK record, every command that can end work keeps, where it is about the
storage or the queue. -/
theorem WorkEvent.keeps {p : Part} {L : State → Prop} {s t : State} (h : WorkEvent s t)
    (hsame : ∀ {s t : State}, s.same t p → L s → L t) (hp : p ∉ [.entries, .targets, .wait, .works, .collector])
    (hfinish : ∀ (x : Segment) (w : Work) (o : WorkOutcome) (data : List Byte) (st : EngineState) (s : State),
      data.length ≤ w.xfer.reads → L s → L (finishWork x w o data st s))
    (hadmit : ∀ x (s : State), L s → L (admitRecords [busStuckRecord x] s)) (hs : L s) : L t := by
  have hseg (x : Segment) (g : Seg → Seg) {s : State} (hs : L s) : L (s.modSeg x g) :=
    hsame (modSeg_same x g (ne_of_not_mem rfl hp)) hs
  cases h with
  | nothing => exact hs
  | goesOn x g => exact hseg x g hs
  | ends x w o data g _ _ _ _ hdata => exact hfinish _ _ _ _ _ _ hdata (hseg x g hs)
  | faults x g =>
    have hlists := hsame (emptyLists_same x ⟨ne_of_not_mem rfl hp, ne_of_not_mem rfl hp⟩) (hseg x g hs)
    have hstuck : L (endStuckWork x (s.engine x).work (emptyLists x (s.modSeg x g))) := by
      unfold endStuckWork
      split
      · exact hfinish _ _ _ _ _ _ (Nat.zero_le _) hlists
      · exact hseg x _ hlists
    have hwithdrawn (u : State) (hu : L u) : L (withdrawRaw x u) := hsame (by cases p <;> simp_all [State.same]) hu
    have hfault : L (faultSegment x g s) :=
      hsame (by cases p <;> simp [State.same, faultSegment]) (hadmit x _ (hwithdrawn _ hstuck))
    unfold endDrain
    split
    · exact hsame (by cases p <;> simp_all [State.same]) hfault
    · exact hfault

end Sys2Proof.Machine
end

section
/-! PROOFS. The law of the storage memory (section 10.4). -/

namespace Sys2Proof.Machine

/-- What the law of the storage says of a memory. -/
def Memory.lawful (m : Memory) : Prop := Memory.wf m = true ∧ ∀ c ∈ m, storageAddr c.1 = true

theorem storageAddr_iff (a : Nat) : storageAddr a = true ↔
    (0x30 ≤ a ∧ a ≤ 0x53) ∨ (0x58 ≤ a ∧ a ≤ 0x5B) ∨ (0x60 ≤ a ∧ a ≤ 0x6F) := decide_eq_true_iff

theorem Memory.lawful_write {m : Memory} {a : Nat} (hm : m.lawful) (ha : storageAddr a = true) (v : Byte) :
    (m.write a v).lawful := by
  refine ⟨Memory.wf_write hm.1 a v, fun c hc => ?_⟩
  rcases Memory.mem_write hc with rfl | hc
  · exact ha
  · exact hm.2 c hc

/-- Bytes written at storage addresses keep the law. -/
theorem Memory.lawful_writeBytes {vs : List Byte} : ∀ {m : Memory} {a : Nat}, m.lawful →
    (∀ b, a ≤ b → b < a + vs.length → storageAddr b = true) → (m.writeBytes a vs).lawful := by
  induction vs with
  | nil => exact fun hm _ => hm
  | cons v vs ih =>
    intro m a hm ha
    rw [List.length_cons] at ha
    exact ih (Memory.lawful_write hm (ha a (by omega) (by omega)) v) fun b hlo hhi => ha b (by omega) (by omega)

theorem length_entryImage (s : State) (n : EntryNo) : (s.entryImage n).length = 26 := rfl

theorem length_targetImage (s : State) (k : TargetNo) : (s.targetImage k).length = 10 := rfl

theorem Memory.lawful_entryImage {m : Memory} (s : State) (n : EntryNo) (hm : m.lawful) :
    (m.writeBytes entryImageBase (s.entryImage n)).lawful :=
  Memory.lawful_writeBytes hm fun b hlo hhi => by
    rw [length_entryImage] at hhi
    rw [entryImageBase] at hlo hhi
    rw [storageAddr_iff]
    omega

theorem Memory.lawful_targetImage {m : Memory} (s : State) (k : TargetNo) (hm : m.lawful) :
    (m.writeBytes targetImageBase (s.targetImage k)).lawful :=
  Memory.lawful_writeBytes hm fun b hlo hhi => by
    rw [length_targetImage] at hhi
    rw [targetImageBase] at hlo hhi
    rw [storageAddr_iff]
    omega

/-- A raw transfer reads at most 16 bytes, which fit the raw buffer (R68, R69). -/
theorem Memory.lawful_rawBuffer {m : Memory} (r : RawParams) (data : List Byte) (hm : m.lawful) :
    (m.writeBytes rawBufferBase (data.take r.readCount.val)).lawful :=
  Memory.lawful_writeBytes hm fun b hlo hhi => by
    have hread := List.length_take_le r.readCount.val data
    rw [rawBufferBase] at hlo hhi
    rw [storageAddr_iff]
    omega

theorem State.memoryLaw_iff (s : State) : s.memoryLaw ↔ s.mem.lawful := Iff.rfl

theorem State.memoryLaw.of_same {s t : State} (h : s.same t .mem) (hs : s.memoryLaw) : t.memoryLaw := by
  change Memory.lawful t.mem
  rw [show t.mem = s.mem from h]
  exact hs

theorem storeReg_memoryLaw {s : State} (a : Nat) (v : Byte) (hs : s.memoryLaw) : (storeReg a v s).memoryLaw := by
  unfold storeReg
  split
  iterate 8 exact hs
  split
  · next ha => exact Memory.lawful_write hs ha v
  · exact hs

theorem finishWork_memoryLaw (x : Segment) (w : Work) (o : WorkOutcome) (data : List Byte) (st : EngineState) {s : State}
    (hs : s.memoryLaw) : (finishWork x w o data st s).memoryLaw := by
  have hreleased : (releaseEngine x st s).memoryLaw := hs.of_same (releaseEngine_mem x st s)
  cases w with
  | poll p => exact hreleased.of_same (finishPoll_mem p o data _)
  | raw r =>
    change (finishRaw r o data _).memoryLaw
    unfold finishRaw
    split
    · exact hreleased
    · dsimp only
      split
      · exact Memory.lawful_rawBuffer r data hreleased
      · exact hreleased
    · exact hreleased

theorem completeOk_setMem_memoryLaw {u : State} {m : Memory} (hm : m.lawful) :
    (completeOk { u with mem := m }).memoryLaw := hm

/-- Every command keeps the law: few write the storage, and those write within it. -/
theorem exec_memoryLaw (c : Instr) (s t : State) (hs : s.memoryLaw) (h : exec c s = .next t) : t.memoryLaw := by
  by_cases hc : endsWork c = true
  · exact (exec_workEvent hc h).keeps .of_same (by decide) (fun x w o data st s _ => finishWork_memoryLaw x w o data st)
      (fun _ _ hu => hu) hs
  have hcommand {code : Byte} {f : State → State} (hf : ∀ u : State, u.memoryLaw → (f u).memoryLaw)
      (h : command code f s = .next t) : t.memoryLaw := by
    rcases command_cases h with rfl | ⟨-, rfl⟩ | ⟨-, -, rfl⟩
    · exact hs
    · exact hf _ hs
    · exact hs
  cases c with
  | hardReset => cases h; exact ⟨rfl, nofun⟩
  | transactionEnd | softResetEffect =>
    cases h
    unfold whenever endTransaction
    split
    · dsimp only
      split
      · exact ⟨rfl, nofun⟩
      · exact hs
    · exact hs
  | registerWrite v =>
    rcases running_cases h with ⟨-, rfl⟩ | ⟨-, rfl⟩
    · exact hs
    · unfold whenever
      split
      · exact storeReg_memoryLaw _ v hs
      · exact hs
  | entryFetch =>
    change execEntryFetch s = _ at h
    refine hcommand (fun u hu => ?_) h
    split
    · exact hu
    · next n _ => exact completeOk_setMem_memoryLaw (Memory.lawful_entryImage u n hu)
  | targetFetch =>
    change execTargetFetch s = _ at h
    refine hcommand (fun u hu => ?_) h
    split
    · exact hu
    · next k _ => exact completeOk_setMem_memoryLaw (Memory.lawful_targetImage u k hu)
  | completion | deferredLoadEnd | rawTransferCompletion | stretchTimeout | arbitrationLoss | foreignStartSeen
  | busClearFail => exact absurd rfl hc
  | _ => exact hs.of_same (exec_same h rfl)

/-- Settles O4. -/
theorem storageLawIsKept : Obligations.StorageLawIsKept := fun _ _ hs h =>
  step_keeps (fun _ _ hs => hs) exec_memoryLaw hs h

end Sys2Proof.Machine
end

section
/-! PROOFS. Transactions and the two resets (R20, R167, R168, R172). -/

namespace Sys2Proof.Machine

/-! ### Framing (R168) -/

/-- Settles O13. -/
theorem transactionFraming : Obligations.TransactionFraming := by
  intro s hr
  refine ⟨fun hcsn => ?opens, fun b hf => ?command, fun hcsn hreq => ?closes⟩
  case opens =>
    change execTransactionOpen s = _
    simp [execTransactionOpen, hcsn, hr]
  case command =>
    change execCommandByte b s = _
    rw [execCommandByte, running_of_not_inReset hr, hf]
    rfl
  case closes =>
    change execTransactionEnd s = _
    rw [execTransactionEnd, hcsn, whenever_true, endTransaction, hreq]
    rfl

/-! ### The soft reset (R20, R172) -/

section
variable (s : State)

theorem State.irq_of_disabled {s : State} (h : s.intEnable = 0) : s.irq = false := by simp [State.irq, h]

theorem State.irqPin_of_disabled {s : State} (h : s.intEnable = 0) (hdrive : s.ctrl.irqPushPull = false) :
    s.irqPin = .released := by
  simp [State.irqPin, State.irq_of_disabled h, hdrive]

@[simp] theorem softReset_entry (n : EntryNo) : (softReset s).entry n = (s.entry n).softReset := by
  have htables : (softReset s).entries = ((s.mapEntries fun _ e => e.softReset).mapTargets Target.softReset).entries := by
    simp only [softReset, reevaluateLimit]
  rw [State.entry_congr htables, State.entry_mapTargets, State.entry_mapEntries]

@[simp] theorem softReset_target (k : TargetNo) : (softReset s).target k = Target.loaded (s.target k).d := by
  have htables : (softReset s).targets = ((s.mapEntries fun _ e => e.softReset).mapTargets Target.softReset).targets := by
    simp only [softReset, reevaluateLimit]
  rw [State.target_congr htables, State.target_mapTargets, State.target_mapEntries, Target.softReset]

@[simp] theorem softReset_seg (x : Segment) : (softReset s).seg x = (s.seg x).softReset s.elapsed := by
  cases x <;> rfl

/-- Every stable state is NORMAL after a soft reset, so that no entry drives LIMIT (R106). -/
theorem softReset_limit : (softReset s).limit = false := by
  rw [← Bool.not_eq_true, softReset_limitLawHolds s, State.limitLaw_eq_true_iff]
  rintro ⟨n, hn⟩
  rw [softReset_entry, Entry.drivesLimit_iff] at hn
  simp [Entry.softReset, Entry.liveReset] at hn

/-- Everything a soft reset that CSN's rise brings leaves in the state (R20, R172). -/
theorem softReset_frame (hcsn : s.host.csnLow = false) : softReset s =
    { State.reset with inReset := s.inReset, entries := (softReset s).entries, targets := (softReset s).targets
                       segA := (softReset s).segA, segB := (softReset s).segB, pending := s.pending
                       freeIndex := s.freeIndex } := by
  apply State.ext
  case limit => exact softReset_limit s
  case host => change { HostPort.reset with csnLow := s.host.csnLow } = HostPort.reset; rw [hcsn]; rfl
  case inReset | pending | freeIndex => simp [softReset, reevaluateLimit]
  all_goals rfl

end

/-- Settles O14: CSN's rise ends the transaction and then resets (`exec_softResetEffect_eq`, `softReset_frame`). -/
theorem softResetTakesEffect : Obligations.SoftResetTakesEffect := by
  intro s hcsn hreq
  obtain ⟨u, hu, heff, hend⟩ : ∃ u : State,
      u = { s with host := { s.host with csnLow := false, framing := .noTransaction, burstOpen := false, byteOut := none }
                   port := ReadPort.reset }
        ∧ exec .softResetEffect s = .next (softReset u) ∧ exec .transactionEnd s = .next (softReset u) := by
    refine ⟨_, rfl, exec_softResetEffect_eq hcsn hreq, ?_⟩
    change execTransactionEnd s = _
    rw [execTransactionEnd, hcsn, whenever_true, endTransaction, if_pos hreq]
  have hframe := softReset_frame u (by rw [hu])
  refine ⟨softReset u, heff, hend, by subst hu; exact hframe, fun n => ?entry, fun k => ?target, fun x => ?seg, ?irq, ?limit⟩
  case entry => rw [softReset_entry, hu]; rfl
  case target => rw [softReset_target, hu]; rfl
  case seg => rw [softReset_seg, hu]; cases x <;> rfl
  case irq => rw [hframe]; exact State.irqPin_of_disabled rfl rfl
  case limit => rw [hframe]; rfl

/-! ### The hard reset (R167) -/

/-- The state a hard reset puts the part in. -/
def State.hardReset (s : State) : State :=
  { State.reset with
    inReset := true, host := { HostPort.reset with csnLow := s.host.csnLow }, segA := s.segA.hardReset
    segB := s.segB.hardReset, pending := s.pending, freeIndex := s.freeIndex }

theorem exec_hardReset_eq (s : State) : exec .hardReset s = .next s.hardReset := rfl

/-- Settles O15. -/
theorem hardResetAndItsEnd : Obligations.HardResetAndItsEnd := by
  intro s
  refine ⟨⟨s.hardReset, rfl, rfl, fun x => by cases x <;> rfl, rfl, State.irqPin_of_disabled rfl rfl, rfl⟩, fun hr => ?_⟩
  refine ⟨{ s with inReset := false, elapsed := 0, segA := s.segA.released s.freeIndex
                   segB := s.segB.released (s.freeIndex + 2), freeIndex := s.freeIndex + 4 }, ?run, rfl, fun x => ?seg⟩
  case run =>
    change execHardResetEnd s = _
    rw [execHardResetEnd, hr]
    rfl
  case seg =>
    have hlevel (l : LineLevel) (k : Nat) : l.released k = { l with fell := (l.released k).fell } := by
      unfold LineLevel.released; split <;> rfl
    have hstays (l : LineLevel) (k : Nat) (hl : l.high = true) : (l.released k).fell = l.fell := by
      rw [LineLevel.released, if_pos hl]
    cases x <;>
    · refine ⟨?_, hstays _ _, hstays _ _⟩
      rw [Seg.mk.injEq]
      exact ⟨rfl, rfl, rfl, rfl, rfl, rfl, rfl, rfl, rfl, rfl, hlevel _ _, hlevel _ _⟩

/-! ### While a hard reset is in force (R167) -/

section
variable {s t : State}

theorem State.heldInReset_iff : s.heldInReset ↔ (s.inReset = true → s.hardReset = s) :=
  forall_congr' fun _ => ⟨fun h => by injection h, congrArg _⟩

theorem State.hardReset_hardReset (s : State) : s.hardReset.hardReset = s.hardReset := rfl

/-- A segment that a hard reset leaves as it is keeps that while its lines and its attention input move. -/
theorem State.hardReset_modSeg {x : Segment} {f : Seg → Seg} (hs : s.hardReset = s)
    (hf : ∀ g, g.hardReset = g → (f g).hardReset = f g) : (s.modSeg x f).hardReset = s.modSeg x f := by
  cases x with
  | a =>
    change { s.hardReset with segA := (f s.segA).hardReset } = { s with segA := f s.segA }
    rw [hs, hf s.segA (congrArg State.segA hs)]
  | b =>
    change { s.hardReset with segB := (f s.segB).hardReset } = { s with segB := f s.segB }
    rw [hs, hf s.segB (congrArg State.segB hs)]

theorem Seg.hardReset_fall (l : LineName) (now : Nat) {g : Seg} (hg : g.hardReset = g) :
    (g.fall l now).hardReset = g.fall l now := by
  rw [← hg]; cases l <;> rfl

theorem Seg.hardReset_rise_recheck (l : Lines) {g : Seg} (hg : g.hardReset = g) :
    ((g.rise l).recheck).hardReset = (g.rise l).recheck := by
  rw [← hg]; cases l <;> rfl

/-- A command that acts neither on the pins nor as a reset does nothing in a hard reset. -/
theorem exec_of_inReset {c : Instr} (hr : s.inReset = true) (hc : actsInReset c = false) : exec c s = .next s := by
  cases c with
  | unknown code =>
    change execUnknown code s = _
    unfold execUnknown
    split
    · rfl
    · exact running_of_inReset hr
  | hardReset | hardResetEnd | transactionOpen | transactionEnd | softResetEffect | attnFallingEdge | attnRearm | lineFall
  | busFree => cases hc
  | _ => exact congrArg Host.Outcome.next (if_pos hr)

/-- What the pins show in a hard reset moves nothing but their levels. -/
theorem exec_pins_hardReset {c : Instr} (hr : s.inReset = true) (hs : s.hardReset = s) (hc : actsInReset c = true)
    (hend : c ≠ .hardResetEnd) (h : exec c s = .next t) : t.hardReset = t := by
  cases c with
  | hardReset => cases h; rfl
  | hardResetEnd => exact absurd rfl hend
  | transactionOpen | transactionEnd | softResetEffect =>
    cases h
    rw [← hs]
    cases hcsn : s.host.csnLow <;> simp only [whenever, State.hardReset, hcsn] <;> rfl
  | attnFallingEdge x =>
    cases h
    simp only [hr, Bool.not_true, Bool.false_and, Bool.false_eq_true, if_false]
    exact State.hardReset_modSeg hs fun g hg => by rw [← hg]; rfl
  | attnRearm x => cases h; exact State.hardReset_modSeg hs fun g hg => by rw [← hg]; rfl
  | lineFall x l => cases h; exact State.hardReset_modSeg hs fun g => Seg.hardReset_fall l s.elapsed
  | busFree x l => cases h; exact State.hardReset_modSeg hs fun g => Seg.hardReset_rise_recheck l
  | _ => cases hc

/-- No command but the hard reset itself puts the part in a hard reset. -/
theorem exec_inReset {c : Instr} (hr : s.inReset = false) (hc : c ≠ .hardReset) (h : exec c s = .next t) :
    t.inReset = false := by
  cases c with
  | hardReset => exact absurd rfl hc
  | hardResetEnd =>
    cases h
    rw [hr]
    exact hr
  | _ => exact Eq.trans (exec_same (p := .inReset) h rfl) hr

/-- The end of the hard reset ends it. -/
theorem exec_hardResetEnd_inReset (h : exec .hardResetEnd s = .next t) : t.inReset = false := by
  cases h
  cases hr : s.inReset <;> simp [hr]

theorem exec_heldInReset (c : Instr) (s t : State) (hs : s.heldInReset) (h : exec c s = .next t) : t.heldInReset := by
  rw [State.heldInReset_iff] at hs ⊢
  intro ht
  by_cases hend : c = .hardResetEnd
  · rw [exec_hardResetEnd_inReset (hend ▸ h)] at ht
    cases ht
  by_cases hhard : c = .hardReset
  · subst hhard
    cases h
    rfl
  cases hr : s.inReset with
  | false => rw [exec_inReset hr hhard h] at ht; cases ht
  | true =>
    cases hc : actsInReset c with
    | true => exact exec_pins_hardReset hr (hs hr) hc hend h
    | false =>
      cases h.symm.trans (exec_of_inReset hr hc)
      exact hs hr

end

/-- Settles O16. -/
theorem hardResetIgnoresCommands : Obligations.HardResetIgnoresCommands := by
  refine ⟨fun c s hr hc => exec_of_inReset hr hc, ?held, fun s t hs h => step_keeps ?pending exec_heldInReset hs h⟩
  case held =>
    rintro s t ⟨⟩
    exact ⟨rfl, State.heldInReset_iff.2 fun _ => s.hardReset_hardReset⟩
  case pending =>
    intro s rest hs
    rw [State.heldInReset_iff] at hs ⊢
    exact fun hr => congrArg (fun u : State => { u with pending := rest }) (hs hr)

end Sys2Proof.Machine
end

section
/-! PROOFS. Registers written byte by byte (R105, R162 to R165, R169, R172). -/

namespace Sys2Proof.Machine

/-! ### Bits of a byte -/

/-- Two bytes with the same eight bits are the same. -/
theorem byte_ext {b c : Byte} (h : ∀ i : Fin 8, b.getLsbD i.val = c.getLsbD i.val) : b = c :=
  BitVec.eq_of_getLsbD_eq fun i hi => h ⟨i, hi⟩

theorem bitVec_ne_zero_iff {w : Nat} (b : BitVec w) : b ≠ 0 ↔ ∃ i, i < w ∧ b.getLsbD i = true := by
  rw [← not_iff_not, not_not]
  push Not
  refine ⟨fun h i _ => by simp [h], fun h => BitVec.eq_of_getLsbD_eq fun i hi => ?_⟩
  simpa using h i hi

/-! ### CTRL (R127, R164, R165, R172) -/

section
variable {s : State} {v : Byte}

theorem writeCtrl_ctrlByte (v : Byte) (s : State) : (writeCtrl v s).ctrlByte = v &&& 0x0E#8 := by
  refine byte_ext fun i => ?_
  fin_cases i <;> simp [State.ctrlByte, writeCtrl, BitVec.getLsbD_append, -BitVec.getLsbD_eq_getElem, -Nat.reduceAdd]

/-- Settles O17: each of the four rows writes one and the same CTRL byte. -/
theorem ctrlByteTakesEffect : Obligations.CtrlByteTakesEffect := by
  intro s v hw c hc
  have hrun : exec c s = writeByte 0x02#7 (writeCtrl v) s := by
    simp only [List.mem_cons, List.not_mem_nil, or_false] at hc
    rcases hc with rfl | rfl | rfl | rfl <;> rfl
  refine ⟨_, hrun.trans (writeByte_of_writing_eq hw rfl), rfl, writeCtrl_ctrlByte v s, rfl, ?_⟩
  change (if (s.limit == v.getLsbD 3) = true then _ else _) = _
  simp only [beq_iff_eq]

/-! ### INT_FLAGS and BAND_PENDING (R105, R162) -/

theorem Sticky.clear_intFlags (v : Byte) (s : State) :
    State.intFlags { s with sticky := s.sticky.clear v } = s.intFlags &&& ~~~(v &&& 0x7A#8) := by
  refine byte_ext fun i => ?_
  fin_cases i <;>
    simp [State.intFlags, State.wmark, State.notEmpty, State.band, Sticky.clear, BitVec.getLsbD_append,
      -BitVec.getLsbD_eq_getElem, -Nat.reduceAdd]

theorem State.intFlags_band (s : State) : s.intFlags.getLsbD 2 = s.band := by
  simp [State.intFlags, BitVec.getLsbD_append, -BitVec.getLsbD_eq_getElem, -Nat.reduceAdd]

theorem getLsbD_clearPendingByte {i j : Nat} (hj : j < 32) :
    (clearPendingByte i v s).bandPending.getLsbD j
      = (s.bandPending.getLsbD j && !(decide (j / 8 = i) && v.getLsbD (j % 8))) := by
  have hbit : (v.setWidth 32 <<< (8 * i)).getLsbD j = (decide (j / 8 = i) && v.getLsbD (j % 8)) := by
    rw [BitVec.getLsbD_shiftLeft, BitVec.getLsbD_setWidth]
    by_cases h : j / 8 = i
    · have hlow : j - 8 * i = j % 8 := by omega
      have hin : ¬ j < 8 * i ∧ j % 8 < 32 := by omega
      simp [h, hlow, hin, hj]
    · rcases Nat.lt_or_ge j (8 * i) with hbelow | habove
      · simp [h, hbelow]
      · simp [h, BitVec.getLsbD_of_ge v (j - 8 * i) (by omega)]
  simp only [clearPendingByte, BitVec.getLsbD_and, BitVec.getLsbD_not, hbit, hj, decide_true, Bool.true_and]

/-- The four addresses of BAND_PENDING. -/
theorem bandPending_address : ∀ i : Fin 4, ∀ p, p = 0x0C#7 + BitVec.ofNat 7 i.val →
    (0x0C#7 ≤ p ∧ p ≤ 0x0F#7) ∧ p.toNat - 0x0C = i.val ∧ nextPointer p = p + 1 := by decide

theorem exec_bandPendingWrite_eq {i : Nat} (hi : i < 4) (hr : s.inReset = false) (hf : s.host.framing = .writeRun)
    (hp : s.host.pointer = 0x0C#7 + BitVec.ofNat 7 i) : exec (.bandPendingWrite v) s =
      .next { s with bandPending := (clearPendingByte i v s).bandPending
                     host := { s.host with pointer := s.host.pointer + 1 } } := by
  obtain ⟨hrange, hindex, hnext⟩ := bandPending_address ⟨i, hi⟩ _ hp
  change execBandPendingWrite v s = _
  rw [execBandPendingWrite, running_of_not_inReset hr, hf, decide_eq_true hrange, hindex, beq_self_eq_true, Bool.and_self,
    whenever_true, advance, clearPendingByte_host, hnext]
  rfl

/-- Settles O19. -/
theorem writtenOnesClearStickyBits : Obligations.WrittenOnesClearStickyBits := by
  refine ⟨fun s v hw => ⟨_, writeByte_of_writing_eq (f := fun s => { s with sticky := s.sticky.clear v }) hw rfl, rfl,
    Sticky.clear_intFlags v s⟩, fun s v i hi hr hf hp =>
      ⟨_, exec_bandPendingWrite_eq hi hr hf hp, rfl, fun j hj => getLsbD_clearPendingByte hj, ?_⟩⟩
  rw [State.intFlags_band, State.band, bne_iff_ne]
  exact bitVec_ne_zero_iff _

/-- Settles O20. -/
theorem intEnableReplacesAllEnables : Obligations.IntEnableReplacesAllEnables := by
  refine ⟨fun s v hw => ⟨_, writeByte_of_writing_eq (f := fun s => { s with intEnable := v }) hw rfl, rfl, rfl, rfl, ?irq⟩,
    ?hard, fun s hcsn hreq => ⟨_, exec_softResetEffect_eq hcsn hreq, rfl, State.irq_of_disabled rfl⟩⟩
  case irq =>
    change ((s.intFlags &&& v) != 0) = true ↔ _
    rw [bne_iff_ne, bitVec_ne_zero_iff]
    simp only [BitVec.getLsbD_and, Bool.and_eq_true]
  case hard =>
    rintro s t ⟨⟩
    exact ⟨rfl, State.irq_of_disabled rfl⟩

/-! ### Registers and storage without behaviour of their own (R169, section 10.4) -/

theorem mask_all (v r : Byte) : (v &&& 0xFF#8) ||| (r &&& ~~~0xFF#8) = v :=
  byte_ext fun i => by fin_cases i <;> simp [-BitVec.getLsbD_eq_getElem]

theorem mask_none (v r : Byte) : (v &&& 0x00#8) ||| (r &&& ~~~0x00#8) = r :=
  byte_ext fun i => by fin_cases i <;> simp [-BitVec.getLsbD_eq_getElem]

theorem mask_attnCtrl (v : Byte) (s : State) : State.attnCtrlByte
      { s with segA := { s.segA with attnEnable := v.getLsbD 0 }, segB := { s.segB with attnEnable := v.getLsbD 1 } }
    = (v &&& 0x03#8) ||| (s.attnCtrlByte &&& ~~~0x03#8) := by
  refine byte_ext fun i => ?_
  fin_cases i <;> simp [State.attnCtrlByte, BitVec.getLsbD_append, -BitVec.getLsbD_eq_getElem, -Nat.reduceAdd]

theorem mask_mode (v : Byte) (g : Seg) : Seg.modeByte { g with cfgFast := v.getLsbD 0, cfgMulti := v.getLsbD 1 }
    = (v &&& 0x03#8) ||| (g.modeByte &&& ~~~0x03#8) := by
  refine byte_ext fun i => ?_
  fin_cases i <;> simp [Seg.modeByte, BitVec.getLsbD_append, -BitVec.getLsbD_eq_getElem, -Nat.reduceAdd]

theorem writeMask_storage : ∀ p : RegAddr, storageAddr p.toNat = true → writeMask p = 0xFF#8 := by decide

theorem writeMask_none : ∀ p : RegAddr, storageAddr p.toNat = false →
    p.toNat ∉ [0x05, 0x0A, 0x20, 0x21, 0x22, 0x24, 0x25, 0x26] → writeMask p = 0x00#8 := by decide

theorem State.readReg_storage {p : RegAddr} (h : storageAddr p.toNat = true) (s : State) :
    s.readReg p = Memory.read s.mem p.toNat := by
  unfold State.readReg
  split
  case h_35 => exact if_pos h
  all_goals next hp => exact absurd (hp ▸ h) (by decide)

/-- Every address but the one written reads as before. -/
theorem storeReg_readReg_of_ne {n : Nat} {a : RegAddr} (hs : s.memoryLaw) (ha : a.toNat ≠ n) :
    (storeReg n v s).readReg a = s.readReg a := by
  unfold storeReg
  split
  case h_9 =>
    split
    · have hread : Memory.read (s.mem.write n v) a.toNat = Memory.read s.mem a.toNat := by
        rw [Memory.read_write n a.toNat v hs.1, if_neg ha]
      unfold State.readReg
      split
      case h_35 => rw [hread]
      all_goals rfl
    · rfl
  -- of the register written, every other address reads nothing
  all_goals
    unfold State.readReg
    split <;> try rfl
    next h => exact absurd h ha

/-- The writable bits of the address written read back. -/
theorem storeReg_readReg_self (hs : s.memoryLaw) (p : RegAddr) :
    (storeReg p.toNat v s).readReg p = (v &&& writeMask p) ||| (s.readReg p &&& ~~~(writeMask p)) := by
  unfold storeReg
  split
  case h_9 h5 hA h20 h21 h22 h24 h25 h26 =>
    split
    · next hst =>
      rw [State.readReg_storage hst, Memory.read_write p.toNat p.toNat v hs.1, if_pos rfl, writeMask_storage p hst, mask_all]
    · next hst =>
      rw [writeMask_none p (Bool.eq_false_of_not_eq_true hst) (by simp_all), mask_none]
  case h_1 hp => rw [show p = 0x05#7 from BitVec.eq_of_toNat_eq hp]; exact (mask_all _ _).symm
  case h_2 hp => rw [show p = 0x0A#7 from BitVec.eq_of_toNat_eq hp]; exact mask_attnCtrl v s
  case h_3 hp => rw [show p = 0x20#7 from BitVec.eq_of_toNat_eq hp]; exact mask_mode v s.segA
  case h_4 hp => rw [show p = 0x21#7 from BitVec.eq_of_toNat_eq hp]; exact (mask_all _ _).symm
  case h_5 hp => rw [show p = 0x22#7 from BitVec.eq_of_toNat_eq hp]; exact (mask_all _ _).symm
  case h_6 hp => rw [show p = 0x24#7 from BitVec.eq_of_toNat_eq hp]; exact mask_mode v s.segB
  case h_7 hp => rw [show p = 0x25#7 from BitVec.eq_of_toNat_eq hp]; exact (mask_all _ _).symm
  case h_8 hp => rw [show p = 0x26#7 from BitVec.eq_of_toNat_eq hp]; exact (mask_all _ _).symm

/-- What a byte written at such an address can change. -/
theorem storeReg_frame (n : Nat) (v : Byte) (s : State) : storeReg n v s =
    { s with cu := { s.cu with arg := (storeReg n v s).cu.arg }, mem := (storeReg n v s).mem
             segA := { s.segA with attnEnable := (storeReg n v s).segA.attnEnable, cfgFast := (storeReg n v s).segA.cfgFast
                                   cfgMulti := (storeReg n v s).segA.cfgMulti
                                   cfgStretch := (storeReg n v s).segA.cfgStretch
                                   cfgBusFree := (storeReg n v s).segA.cfgBusFree }
             segB := { s.segB with attnEnable := (storeReg n v s).segB.attnEnable, cfgFast := (storeReg n v s).segB.cfgFast
                                   cfgMulti := (storeReg n v s).segB.cfgMulti
                                   cfgStretch := (storeReg n v s).segB.cfgStretch
                                   cfgBusFree := (storeReg n v s).segB.cfgBusFree } } := by
  unfold storeReg
  split
  case h_9 => split <;> rfl
  all_goals rfl

theorem storeReg_host (n : Nat) (v : Byte) (s : State) : (storeReg n v s).host = s.host := by rw [storeReg_frame]

/-- Settles O21: `storeReg_readReg_self` at the address written, `storeReg_readReg_of_ne` at every other. -/
theorem registerWriteReadsBack : Obligations.RegisterWriteReadsBack := by
  intro s v hr hf hown hmem
  obtain ⟨u, hu⟩ : ∃ u, u = storeReg s.host.pointer.toNat v s := ⟨_, rfl⟩
  have hhost : u.host = s.host := hu ▸ storeReg_host _ v s
  refine ⟨advance u, ?run, ?done, ?frame, fun a => ?read⟩
  case run =>
    change execRegisterWrite v s = _
    rw [execRegisterWrite, running_of_not_inReset hr, hf, hown, hu]
    rfl
  case done => rw [State.byteDone, advance_host, hhost]
  case frame => exact congrArg (fun w : State => { w with host := (advance u).host }) (hu ▸ storeReg_frame _ v s)
  case read =>
    change u.readReg a = _
    rw [hu]
    split
    · next ha => subst ha; exact storeReg_readReg_self hmem _
    · next ha => exact storeReg_readReg_of_ne hmem fun h => ha (BitVec.eq_of_toNat_eq h)

end

end Sys2Proof.Machine
end

section
/-! PROOFS. Data bytes of a read run, the Read Port's burst, and the snapshot latches (R133 to R135, R168, R170). -/

namespace Sys2Proof.Machine

section
variable {s : State}

/-! ### Snapshots (R168, R170) -/

theorem exec_snapshotLatch_eq {c : ReadByte} {a : RegAddr} (hr : s.inReset = false) (ha : s.readStart c = some a) :
    exec (.snapshotLatch c) s = .next { latchCounter c s with
      host := { (latchCounter c s).host with pointer := a
                                             byteOut := some { value := s.readReg a, source := .register } } } := by
  change execSnapshotLatch c s = _
  rw [execSnapshotLatch, running_of_not_inReset hr, ha]

/-- Settles O22: the byte starts by `exec_snapshotLatch_eq`, what no other command moves by `exec_same`. -/
theorem snapshotLatchesHoldTheirCounters : Obligations.SnapshotLatchesHoldTheirCounters := by
  refine ⟨?hard, fun s hcsn hreq => ⟨_, exec_softResetEffect_eq hcsn hreq, rfl, rfl, rfl⟩,
    fun s hr => ⟨fun h => exec_snapshotLatch_eq hr (if_pos h), fun h => exec_snapshotLatch_eq hr (if_pos h),
      fun h => exec_snapshotLatch_eq hr (if_pos h)⟩,
    fun s => ⟨rfl, rfl, rfl, rfl, rfl, rfl, rfl, rfl, rfl, rfl⟩,
    fun c s t h => ⟨fun hc => exec_same (p := .latches) h ?latches, fun hc => exec_same (p := .byteOut) h ?byteOut⟩⟩
  case hard => rintro s t ⟨⟩; exact ⟨rfl, rfl, rfl⟩
  case latches =>
    cases c with
    | snapshotLatch | hardReset | softResetEffect | transactionEnd => cases hc
    | _ => rfl
  case byteOut =>
    cases c with
    | snapshotLatch | queueDataByteStart | queueDataByteComplete | hardReset | softResetEffect | transactionEnd => cases hc
    | _ => rfl

/-! ### Bytes of QUEUE_DATA and of the other registers (R133 to R135, R168) -/

theorem exec_queueDataByteStart_eq (hr : s.inReset = false) (h : s.readsAt 0x1C#7 = true) : exec .queueDataByteStart s =
    .next { s with host := { s.host with
                     pointer := 0x1C#7, burstOpen := true
                     byteOut := some { value := s.queueByte
                                       source := if s.queue.records.isEmpty then .emptyMarker else .record } }
                   port := { s.port with pinned := s.port.pinned || !s.queue.records.isEmpty } } := by
  change execQueueDataByteStart s = _
  rw [execQueueDataByteStart, running_of_not_inReset hr, h]
  rfl

theorem exec_queueDataByteComplete_register {v : Byte} (hr : s.inReset = false)
    (hb : s.host.byteOut = some { value := v, source := .register }) :
    exec .queueDataByteComplete s = .next (advance { s with host := { s.host with byteOut := none } }) := by
  change execQueueDataByteComplete s = _
  simp only [execQueueDataByteComplete, running_of_not_inReset hr, hb]

theorem exec_queueDataByteComplete_marker {v : Byte} (hr : s.inReset = false)
    (hb : s.host.byteOut = some { value := v, source := .emptyMarker }) :
    exec .queueDataByteComplete s = .next { s with host := { s.host with byteOut := none } } := by
  change execQueueDataByteComplete s = _
  simp only [execQueueDataByteComplete, running_of_not_inReset hr, hb]

theorem exec_queueDataByteComplete_record {v : Byte} (hr : s.inReset = false)
    (hb : s.host.byteOut = some { value := v, source := .record }) :
    exec .queueDataByteComplete s = .next (recordByteRead { s with host := { s.host with byteOut := none } }) := by
  change execQueueDataByteComplete s = _
  simp only [execQueueDataByteComplete, running_of_not_inReset hr, hb]

/-- A byte of the head record that is not its last moves the cursor. -/
theorem recordByteRead_of_lt {r : Record} {rest : List Record} (hq : s.queue.records = r :: rest)
    (hc : s.port.cursor + 1 < r.size) :
    recordByteRead s = { s with port := { s.port with cursor := s.port.cursor + 1 } } := by
  simp only [recordByteRead, hq, if_pos hc]

theorem Queue.release_cons {q : Queue} {r : Record} {rest : List Record} (hq : q.records = r :: rest) :
    q.release = { q with records := rest, headEpoch := r.epoch?.or q.headEpoch } := by
  cases r <;> simp [Queue.release, hq, Record.epoch?]

/-- With its last byte the head record leaves the queue. -/
theorem recordByteRead_of_eq {r : Record} {rest : List Record} (hq : s.queue.records = r :: rest)
    (hc : s.port.cursor + 1 = r.size) : recordByteRead s =
      { s with port := { cursor := 0, pinned := false }
               queue := { s.queue with records := rest, headEpoch := r.epoch?.or s.queue.headEpoch } } := by
  simp only [recordByteRead, hq, if_neg (Nat.not_lt_of_le hc.ge), Queue.release_cons hq]
  rfl

theorem nextPointer_of_ne {p : RegAddr} (h : p ≠ 0x1C#7) : nextPointer p = p + 1 := if_neg h

/-- Settles O23. -/
theorem queueDataByteStartAndCompletion : Obligations.QueueDataByteStartAndCompletion := by
  intro s hr
  refine ⟨fun hreads => ⟨fun hq => ?empty, fun r rest hq => ?head⟩, fun v hb => ?marker,
    fun v r rest hb hq => ⟨fun hc => ?cursor, fun hc => ?released⟩, fun a hf hat h10 h14 h18 h1C => ?register,
    fun v hb hp => ?moved⟩
  case empty => rw [exec_queueDataByteStart_eq hr hreads]; simp [hq, State.queueByte]
  case head => rw [exec_queueDataByteStart_eq hr hreads]; simp [hq, State.queueByte]
  case marker => exact exec_queueDataByteComplete_marker hr hb
  case cursor => rw [exec_queueDataByteComplete_record hr hb]; exact congrArg _ (recordByteRead_of_lt hq hc)
  case released => rw [exec_queueDataByteComplete_record hr hb]; exact congrArg _ (recordByteRead_of_eq hq hc)
  case register =>
    have hnext : s.nextRead = some a := by
      rw [State.nextRead, if_pos hf]
      rcases hat with ⟨hb, hp⟩ | ⟨v, hb, hp, hne⟩
      · rw [hb, hp]
      · rw [hb, ← hp, ← nextPointer_of_ne hne]
        rfl
    have hplain : s.readStart .plain = some a := by
      simp [State.readStart, hnext, readHasEffect, h10, h14, h18, h1C]
    refine ⟨_, exec_snapshotLatch_eq hr hplain, rfl, fun hcsn => ?_⟩
    simp [State.sdo, latchCounter, hr, hcsn, hf]
  case moved => rw [exec_queueDataByteComplete_register hr hb]; simp [advance, nextPointer_of_ne hp]

/-! ### A whole burst (R133 to R135) -/

/-- A read run that stands at QUEUE_DATA between two of its data bytes. -/
def State.atQueue (s : State) : Prop :=
  s.inReset = false ∧ s.host.framing = .readRun ∧ s.host.byteOut = none ∧ s.host.pointer = 0x1C#7

theorem State.atQueue.readsAt (h : s.atQueue) : s.readsAt 0x1C#7 = true := by
  obtain ⟨-, hf, hb, hp⟩ := h
  rw [State.readsAt, State.nextRead, if_pos hf, hb, hp]
  rfl

/-- The state a burst leaves: the burst open or not, the cursor, and the queue. -/
def State.burst (s : State) (b : Bool) (port : ReadPort) (q : Queue) : State :=
  { s with host := { s.host with burstOpen := b }, port := port, queue := q }

theorem State.atQueue.burst (h : s.atQueue) (b : Bool) (port : ReadPort) (q : Queue) : (s.burst b port q).atQueue := h

/-- One data byte and those behind it. -/
theorem readQueue_succ {b : ByteOut} {u t : State} (k : Nat) (hstart : exec .queueDataByteStart s = .next u)
    (hb : u.host.byteOut = some b) (hdone : exec .queueDataByteComplete u = .next t) :
    s.readQueue (k + 1) = (t.readQueue k).map fun r => (b.value :: r.1, r.2) := by
  rw [State.readQueue, hstart]
  simp only [hdone, hb, Option.map_some]
  cases State.readQueue k t <;> rfl

/-- After a byte of QUEUE_DATA the run stands at QUEUE_DATA again. -/
theorem State.atQueue.host (h : s.atQueue) (b : Bool) :
    { s.host with pointer := 0x1C#7, burstOpen := b, byteOut := none } = { s.host with burstOpen := b } := by
  obtain ⟨-, -, hb, hp⟩ := h
  rw [← hb, ← hp]

/-- A burst's next byte, of the head record. -/
theorem readQueue_byte {r : Record} {rest : List Record} (hs : s.atQueue) (hq : s.queue.records = r :: rest) (k : Nat) :
    s.readQueue (k + 1) = ((recordByteRead (s.burst true { s.port with pinned := true } s.queue)).readQueue k).map fun x =>
      (r.bytes.getD s.port.cursor 0 :: x.1, x.2) := by
  have hbyte : s.queueByte = r.bytes.getD s.port.cursor 0 := by simp [State.queueByte, hq]
  have hstart := exec_queueDataByteStart_eq hs.1 hs.readsAt
  simp only [hq, List.isEmpty_cons, Bool.false_eq_true, if_false, Bool.not_false, Bool.or_true] at hstart
  rw [readQueue_succ k hstart rfl (exec_queueDataByteComplete_record hs.1 rfl), hbyte]
  simp only [hs.host, State.burst]

/-- A burst's next byte, where the queue is empty. -/
theorem readQueue_marker (hs : s.atQueue) (hq : s.queue.records = []) (k : Nat) :
    s.readQueue (k + 1) = ((s.burst true s.port s.queue).readQueue k).map fun x => (0x00#8 :: x.1, x.2) := by
  have hbyte : s.queueByte = 0x00#8 := by simp [State.queueByte, hq]
  have hstart := exec_queueDataByteStart_eq hs.1 hs.readsAt
  simp only [hq, List.isEmpty_nil, if_true, Bool.not_true, Bool.or_false] at hstart
  rw [readQueue_succ k hstart rfl (exec_queueDataByteComplete_marker hs.1 rfl), hbyte]
  simp only [hs.host, State.burst]

theorem Record.size_pos (r : Record) : 0 < r.size := by
  rcases r with ⟨b, st⟩ | e | ⟨lost, e⟩
  · cases b <;> simp [Record.size, Body.size]
  · exact Nat.succ_pos 2
  · exact Nat.succ_pos 4

theorem Record.bytes_drop {r : Record} {c : Nat} (hc : c < r.size) :
    r.bytes.drop c = r.bytes.getD c 0 :: r.bytes.drop (c + 1) := by
  rw [← r.length_bytes] at hc
  rw [List.drop_eq_getElem_cons hc, List.getD_eq_getElem _ _ hc]

/-- A burst that reads what is left of the head record. -/
theorem readQueue_record {r : Record} {rest : List Record} (left : Nat) : ∀ {s : State}, s.atQueue →
    s.queue.records = r :: rest → s.port.cursor < r.size → left = r.size - s.port.cursor → ∀ k,
    s.readQueue (left + k) = ((s.burst true ReadPort.reset s.queue.release).readQueue k).map fun x =>
      (r.bytes.drop s.port.cursor ++ x.1, x.2) := by
  induction left with
  | zero => intros; omega
  | succ left ih =>
    intro s hs hq hc hleft k
    rw [Nat.add_right_comm, readQueue_byte hs hq, Record.bytes_drop hc]
    by_cases hlast : s.port.cursor + 1 = r.size
    · have hend : r.bytes.drop (s.port.cursor + 1) = [] := List.drop_eq_nil_of_le (by rw [r.length_bytes]; omega)
      rw [recordByteRead_of_eq (s := s.burst true { s.port with pinned := true } s.queue) hq hlast, hend, show left = 0 by omega, Nat.zero_add, Queue.release_cons hq]
      rfl
    · have hlt : s.port.cursor + 1 < r.size := by omega
      have hnext : recordByteRead (s.burst true { s.port with pinned := true } s.queue)
          = s.burst true { cursor := s.port.cursor + 1, pinned := true } s.queue := recordByteRead_of_lt hq hlt
      rw [hnext, ih (s := s.burst true { cursor := s.port.cursor + 1, pinned := true } s.queue) hs hq hlt
          (by change _ = r.size - (s.port.cursor + 1); omega), Option.map_map]
      rfl

/-- A burst beyond the end of the queue delivers Empty markers. -/
theorem readQueue_empty (k : Nat) : ∀ {s : State}, s.atQueue → s.queue.records = [] →
    ∃ b, s.readQueue k = some (List.replicate k 0x00#8, s.burst b s.port s.queue) := by
  induction k with
  | zero => exact fun _ _ => ⟨_, rfl⟩
  | succ k ih =>
    intro s hs hq
    obtain ⟨b, hb⟩ := ih (hs.burst true s.port s.queue) hq
    exact ⟨b, by rw [readQueue_marker hs hq, hb]; rfl⟩

/-- A burst that reads the queue to its end. -/
theorem readQueue_records (records : List Record) : ∀ {s : State}, s.atQueue → s.queue.records = records →
    s.port = ReadPort.reset → ∀ k, ∃ b, s.readQueue ((records.map Record.size).sum + k) =
      ((s.burst b s.port { s.queue with records := [], headEpoch := epochAfter s.queue.headEpoch records }).readQueue k).map
        fun x => (records.flatMap Record.bytes ++ x.1, x.2) := by
  induction records with
  | nil =>
    intro s _ hq _ k
    refine ⟨s.host.burstOpen, ?_⟩
    have hempty : { s.queue with records := [], headEpoch := epochAfter s.queue.headEpoch [] } = s.queue :=
      congrArg (fun records => { s.queue with records := records }) hq.symm
    rw [hempty, show (List.map Record.size []).sum + k = k from Nat.zero_add k]
    exact Option.map_id.symm ▸ rfl
  | cons r rest ih =>
    intro s hs hq hport k
    have hcursor : s.port.cursor = 0 := by rw [hport]; rfl
    obtain ⟨b, hb⟩ := ih (hs.burst true ReadPort.reset s.queue.release) (by rw [Queue.release_cons hq]; rfl) rfl k
    refine ⟨b, ?_⟩
    rw [List.map_cons, List.sum_cons, Nat.add_assoc, readQueue_record _ hs hq (by rw [hcursor]; exact r.size_pos)
      (by rw [hcursor, Nat.sub_zero]), hb, hcursor, hport, Queue.release_cons hq, Option.map_map]
    simp only [Function.comp_def, List.drop_zero, List.flatMap_cons, List.append_assoc]
    rfl

/-- Settles O24: the records (`readQueue_records`), then the Empty markers (`readQueue_empty`). -/
theorem burstDeliversEveryRecordInOrder : Obligations.BurstDeliversEveryRecordInOrder := by
  intro s k hr hf hb hp hport
  obtain ⟨b, hrecords⟩ := readQueue_records _ ⟨hr, hf, hb, hp⟩ rfl hport k
  obtain ⟨b', hmarkers⟩ := readQueue_empty k (State.atQueue.burst ⟨hr, hf, hb, hp⟩ b s.port
    { s.queue with records := [], headEpoch := epochAfter s.queue.headEpoch s.queue.records }) rfl
  rw [hmarkers] at hrecords
  exact ⟨_, hrecords, rfl⟩

end

end Sys2Proof.Machine
end

section
/-! PROOFS. The state after reset, and what STATE shows (section 10.4). -/

namespace Sys2Proof.Machine

section

@[simp] theorem State.reset_entry (n : EntryNo) : State.reset.entry n = Entry.empty := by
  simp [State.entry, State.reset]

@[simp] theorem State.reset_target (k : TargetNo) : State.reset.target k = Target.empty := by
  simp [State.target, State.reset]

@[simp] theorem State.reset_seg (x : Segment) : State.reset.seg x = Seg.reset := by cases x <;> rfl

theorem State.reset_not_waiting (w : Wait) : w ∉ State.reset.cu.wait := Option.not_mem_none w

theorem State.reset_limitLawHolds : State.reset.limitLawHolds := by
  change false = State.reset.limitLaw
  rw [eq_comm, ← Bool.not_eq_true, State.limitLaw_eq_true_iff]
  rintro ⟨n, hn⟩
  rw [State.reset_entry] at hn
  cases hn

theorem State.reset_readPortLaw : State.reset.readPortLaw :=
  ⟨fun _ => rfl, nofun, nofun, fun h => absurd rfl h, nofun⟩

theorem State.reset_targetTableLaw : State.reset.targetTableLaw := by
  refine ⟨fun k => ?_, fun k u _ => ?_, fun w hw => absurd hw (State.reset_not_waiting w)⟩
  · rw [State.reset_target]; rfl
  · rw [State.reset_target, State.reset_target]; exact fun h => nomatch h.1

theorem State.reset_entryTableLaw : State.reset.entryTableLaw := by
  refine ⟨fun n => ?_, fun w hw => absurd hw (State.reset_not_waiting w)⟩
  rw [State.reset_entry]
  exact ⟨by decide, by decide, nofun, fun _ => ⟨rfl, rfl⟩, nofun, fun _ => rfl⟩

theorem State.reset_healthLaw : State.reset.healthLaw := by
  intro k
  rw [State.reset_target]
  exact ⟨fun _ => ⟨rfl, rfl, rfl⟩, nofun, rfl, rfl⟩

theorem State.reset_segmentLaw (x : Segment) : State.reset.segmentLaw x := by
  unfold State.segmentLaw State.engine
  rw [State.reset_seg]
  exact ⟨⟨⟨rfl, .inl rfl⟩, by decide, fun h => absurd rfl h, nofun⟩, by decide, nofun, nofun, nofun, by decide, by decide, nofun⟩

theorem State.reset_workLaw : State.reset.workLaw := by
  refine ⟨State.reset_segmentLaw .a, State.reset_segmentLaw .b, fun n => ⟨?_, ?_⟩, ⟨nofun, nofun⟩, nofun, nofun, nofun,
    fun w hw => absurd hw (State.reset_not_waiting w)⟩
  · rw [State.reset_entry]; exact nofun
  · rw [State.inOneShot, State.reset_seg, State.reset_entry]
    rintro (h | h) <;> cases h

theorem State.reset_readReg (a : RegAddr) : State.reset.readReg a =
      if a = 0x00#7 then 0xC7#8 else if a = 0x01#7 then 0x12#8 else if a = 0x0A#7 then 0x30#8
      else if a = 0x21#7 ∨ a = 0x25#7 then 0x19#8 else if a = 0x22#7 ∨ a = 0x26#7 then 0x23#8 else 0x00#8 := by
  revert a
  decide

/-- The fields of STATE (section 10.4). -/
theorem State.stateByte_fields (s : State) :
    s.stateByte.extractLsb' 0 2 = s.collector.code ∧ s.stateByte.extractLsb' 2 2 = s.segA.engine.state.code
      ∧ s.stateByte.extractLsb' 4 2 = s.segB.engine.state.code ∧ s.stateByte.getLsbD 6 = s.busy
      ∧ s.stateByte.getLsbD 7 = s.limit := by
  simp [State.stateByte, BitVec.getLsbD_append, BitVec.extractLsb'_append_eq_of_le,
    BitVec.extractLsb'_append_eq_of_add_le, -BitVec.getLsbD_eq_getElem, -Nat.reduceAdd]

theorem Collector.code_eq_match (c : Collector) :
    c.code = (match c with | .stopped => 0#2 | .running => 1#2 | .stopping => 2#2) := by cases c <;> rfl

theorem EngineState.code_eq_match (e : EngineState) :
    e.code = (match e with | .idle => 0#2 | .busy => 1#2 | .clearing => 2#2 | .faulted => 3#2) := by cases e <;> rfl

/-- Settles O3. -/
theorem resetStateAndItsLaws : Obligations.ResetStateAndItsLaws := by
  refine ⟨⟨rfl, nofun⟩, State.reset_limitLawHolds, ⟨by decide, nofun, rfl, by decide, by decide⟩, ⟨rfl, fun _ => nofun⟩,
    State.reset_readPortLaw, nofun, State.reset_targetTableLaw, State.reset_entryTableLaw, State.reset_healthLaw,
    State.reset_workLaw, State.reset_readReg, State.irqPin_of_disabled rfl rfl, rfl, rfl, ?_⟩
  rintro s _ rfl
  obtain ⟨hc, ha, hb, hbusy, hlimit⟩ := s.stateByte_fields
  exact ⟨hc, ha, hb, hbusy, hlimit⟩

end

end Sys2Proof.Machine
end

section
/-! PROOFS. Images and the definitions they stand for (R10, R16, R174, R175), and the codes of an image that is refused. -/

namespace Sys2Proof.Machine

/-! ### Entry images (R174) -/

section
variable {d : EntryDef} {img : Nat → Byte}

/-- The byte at offset k of the definition's part of an image. -/
def EntryDef.image (d : EntryDef) (k : Nat) : Byte := d.bytes.getD k 0

theorem reportModeOf_code (m : ReportMode) : reportModeOf m.code = m := by cases m <;> rfl

theorem ofNat_toNat_ofNat {w k : Nat} [NeZero k] (n : Fin k) (h : k ≤ 2 ^ w) :
    Fin.ofNat k (BitVec.ofNat w n.val).toNat = n := by
  rw [toNat_of_eq_ofNat rfl (n.isLt.trans_le h)]
  exact Fin.ext (Nat.mod_eq_of_lt n.isLt)

theorem joinBytes_loByte_hiByte (h : Half) : joinBytes (loByte h) (hiByte h) = h := hiByte_append_loByte h

theorem imageLength_image (d : EntryDef) : imageLength d.image = d.length.val := by
  change (d.shapeByte.extractLsb' 0 4).toNat = _
  exact toNat_of_eq_ofNat d.shapeByte_fields.1 (by have := d.length.isLt; omega)

/-- The image of a definition decodes to it. -/
theorem entryDefOf_image (d : EntryDef) : entryDefOf d.image = d := by
  obtain ⟨hlength, hpresent, hattention, htier⟩ := d.shapeByte_fields
  obtain ⟨hmode, hmean, hwide, hsigned, hhigh⟩ := d.formatByte_fields
  obtain ⟨henable, hrecord, hdrive, hconfirm⟩ := d.bandByte_fields
  cases d
  rw [EntryDef.mk.injEq]
  exact ⟨ofNat_toNat_ofNat (w := 8) _ (by decide), rfl, hpresent,
    (congrArg (fun b : BitVec 4 => Fin.ofNat 9 b.toNat) hlength).trans (ofNat_toNat_ofNat (w := 4) _ (by decide)), htier,
    joinBytes_loByte_hiByte _, joinBytes_loByte_hiByte _, hattention, hwide, hsigned, hhigh.1,
    ofNat_toNat_ofNat (w := 8) _ (by decide), (congrArg reportModeOf hmode).trans (reportModeOf_code _), hmean,
    joinBytes_loByte_hiByte _, henable, hrecord, hdrive, hconfirm.2, joinBytes_loByte_hiByte _,
    joinBytes_loByte_hiByte _, joinBytes_loByte_hiByte _⟩

/-- Every check of ENTRY_LOAD passes on the image of a sound definition (R10). -/
theorem entryCode_image (h : d.sound) : entryCode d.image = 0 := by
  obtain ⟨hlength, hoffset, hperiod, hband⟩ := h
  have htarget : (d.image 0).toNat = d.target.val := toNat_of_eq_ofNat rfl (by have := d.target.isLt; omega)
  have hoff : (d.image 4).toNat = d.offset.val := toNat_of_eq_ofNat rfl (by have := d.offset.isLt; omega)
  simp only [entryCode, entryDefOf_image, imageLength_image, htarget, hoff]
  rw [if_neg (by have := d.target.isLt; omega), if_neg (by have := d.length.isLt; omega), if_neg (by omega),
    if_neg fun h => hperiod h.2 h.1, if_neg fun h => (hband h.1).1.not_gt h.2, if_neg fun h => (hband h.1).2 h.2]

/-- What ENTRY_LOAD accepts, with a length that is not 0, is sound (R4, R10). -/
theorem entryDefOf_sound (hlength : imageLength img ≠ 0) (h : entryCode img = 0) : (entryDefOf img).sound := by
  unfold entryCode at h
  dsimp only at h
  split at h; · cases h
  split at h; · cases h
  split at h; · cases h
  split at h; · cases h
  split at h; · cases h
  split at h; · cases h
  next htarget hlong hoffset hperiod hlimits hconfirm =>
  have hlen : (entryDefOf img).length.val = imageLength img := Nat.mod_eq_of_lt (by change imageLength img < 9; omega)
  have hoff : (entryDefOf img).offset.val = (img 4).toNat := by
    refine Nat.mod_eq_of_lt ?_
    have : 1 ≤ widthBytes (entryDefOf img).wide := by unfold widthBytes; split <;> omega
    omega
  refine ⟨by omega, by omega, fun htier hp => hperiod ⟨hp, htier⟩, fun hband => ⟨?_, fun hc => hconfirm ⟨hband, hc⟩⟩⟩
  exact not_lt.1 fun hlt => hlimits ⟨hband, hlt⟩

theorem entryLoadCode_of_ne (h : imageLength img ≠ 0) : entryLoadCode img = entryCode img := if_neg h

end

/-! ### Target images (R175) -/

/-- The byte at offset k of the definition's part of a target image. -/
def TargetDef.image (d : TargetDef) (k : Nat) : Byte := d.bytes.getD k 0

theorem segmentOf_decide (x : Segment) : segmentOf (decide (x = .b)) = x := by cases x <;> rfl

theorem TargetDef.addressByte_fields (d : TargetDef) :
    (BitVec.ofBool d.enabled ++ d.address).getLsbD 7 = d.enabled
      ∧ (BitVec.ofBool d.enabled ++ d.address : Byte).extractLsb' 0 7 = d.address := by
  simp [BitVec.getLsbD_append, BitVec.extractLsb'_append_eq_of_add_le, -BitVec.getLsbD_eq_getElem, -Nat.reduceAdd]

theorem targetDefOf_image (d : TargetDef) : targetDefOf d.image = d := by
  obtain ⟨henabled, haddress⟩ := d.addressByte_fields
  obtain ⟨hsegment, hcheck, hstop, -, hthreshold⟩ := flags_fields d.threshold false d.stopBetween d.check
    (decide (d.segment = .b)) (b := d.image 1) (by rw [← segmentCode_eq_ofBool]; rfl)
  cases d
  rw [TargetDef.mk.injEq]
  refine ⟨henabled, (congrArg segmentOf hsegment).trans ?_, haddress, hcheck, hstop, hthreshold, joinBytes_loByte_hiByte _,
    joinBytes_loByte_hiByte _⟩
  exact segmentOf_decide _

/-- Settles O26. -/
theorem imagesDecodeToTheirDefinitions : Obligations.ImagesDecodeToTheirDefinitions := by
  refine ⟨fun d hd => ?_, targetDefOf_image, fun img hlength hcode =>
    entryDefOf_sound hlength (entryLoadCode_of_ne hlength ▸ hcode)⟩
  have hlength : imageLength d.image ≠ 0 := by have := hd.1; rw [imageLength_image]; omega
  refine ⟨entryDefOf_image d, imageLength_image d, (entryLoadCode_of_ne hlength).trans (entryCode_image hd), ?_⟩
  change (if imageLength d.image = 0 then none else some (entryDefOf d.image)) = some d
  rw [if_neg hlength, entryDefOf_image]

end Sys2Proof.Machine
end

section
/-! PROOFS. Commands that are turned away, and commands that act at the event at which they are taken (chapter 8). -/

namespace Sys2Proof.Machine

section
variable {s : State}

@[simp] theorem takeCode_entryImageByte (code : Byte) (s : State) :
    (takeCode code s).entryImageByte = s.entryImageByte := rfl
@[simp] theorem takeCode_targetImageByte (code : Byte) (s : State) :
    (takeCode code s).targetImageByte = s.targetImageByte := rfl
@[simp] theorem takeCode_addressClash (code : Byte) (s : State) (k : TargetNo) (d : TargetDef) :
    (takeCode code s).addressClash k d = s.addressClash k d := rfl
@[simp] theorem takeCode_targetInFlight (code : Byte) (s : State) (k : TargetNo) :
    (takeCode code s).targetInFlight k = s.targetInFlight k := rfl
@[simp] theorem takeCode_rawByte (code : Byte) (s : State) (k : Nat) : (takeCode code s).rawByte k = s.rawByte k := rfl
@[simp] theorem takeCode_rawParams (code : Byte) (s : State) : (takeCode code s).rawParams = s.rawParams := rfl
@[simp] theorem takeCode_engine (code : Byte) (s : State) (x : Segment) : (takeCode code s).engine x = s.engine x := by
  cases x <;> rfl
@[simp] theorem takeCode_entrySegment (code : Byte) (s : State) (n : EntryNo) :
    (takeCode code s).entrySegment n = s.entrySegment n := rfl
@[simp] theorem takeCode_sleeps (code : Byte) (s : State) (n : EntryNo) : (takeCode code s).sleeps n = s.sleeps n := by
  unfold State.sleeps
  rw [takeCode_engine]
  rfl
@[simp] theorem takeCode_pollRefused (code : Byte) (s : State) (n : EntryNo) :
    (takeCode code s).pollRefused n = s.pollRefused n := by
  unfold State.pollRefused
  rw [takeCode_sleeps]
  rfl

/-! ### A BUSY unit (R145) -/

/-- Settles O27. -/
theorem busyUnitTakesNoOtherCode : Obligations.BusyUnitTakesNoOtherCode := by
  refine fun s w hs hw => ⟨fun c hc => ?known, fun code hc => ?unknown⟩
  case known =>
    simp only [codeCommands, List.mem_cons, List.not_mem_nil, or_false] at hc
    rcases hc with rfl | rfl | rfl | rfl | rfl | rfl | rfl | rfl | rfl | rfl | rfl | rfl <;>
      (dsimp only [exec]; exact command_of_busy_eq hs hw)
  case unknown => rw [exec_unknown_eq hc, command_of_busy_eq hs hw]

/-! ### Refusals (R147, R149 to R157) -/

/-- A command whose checks end in a result is turned away. -/
theorem command_turnedAway {f : State → State} {code result detail : Byte} (h : s.takes)
    (hf : f (takeCode code s) = complete result detail (takeCode code s)) :
    ∃ t, command code f s = .next t ∧ s.completedAs t code result detail
      ∧ t = { s with host := t.host, cu := t.cu, sticky := t.sticky } :=
  command_completes (m := s.mem) h hf

theorem start_turnedAway (h : s.takes) (hc : s.collector ≠ .stopped) : s.turnsAway .start 0x01#8 0x04#8 0x00#8 := by
  change ∃ t, execStart s = .next t ∧ _
  exact command_turnedAway h (if_pos hc)

theorem stop_turnedAway (h : s.takes) (hc : s.collector ≠ .running) : s.turnsAway .stop 0x02#8 0x04#8 0x00#8 := by
  change ∃ t, execStop s = .next t ∧ _
  exact command_turnedAway h (if_pos hc)

theorem entryLoad_outOfRange (h : s.takes) (harg : s.entryArg = none) :
    s.turnsAway .entryLoad 0x03#8 0x02#8 0x00#8 := by
  change ∃ t, execEntryLoad s = .next t ∧ _
  exact command_turnedAway h (by simp only [takeCode_entryArg, harg]; rfl)

theorem entryLoad_invalid {n : EntryNo} (h : s.takes) (harg : s.entryArg = some n)
    (hcode : entryLoadCode s.entryImageByte ≠ 0) :
    s.turnsAway .entryLoad 0x03#8 0x03#8 (entryLoadCode s.entryImageByte) := by
  change ∃ t, execEntryLoad s = .next t ∧ _
  exact command_turnedAway h
    (by simp only [takeCode_entryArg, harg, takeCode_entryImageByte, ne_eq, hcode, not_false_iff, if_true]; rfl)

theorem pollNow_outOfRange (h : s.takes) (harg : s.entryArg = none) :
    s.turnsAway .pollNow 0x07#8 0x02#8 0x00#8 := by
  change ∃ t, execPollNow s = .next t ∧ _
  exact command_turnedAway h (by simp only [takeCode_entryArg, harg]; rfl)

theorem pollNow_wrongState {n : EntryNo} (h : s.takes) (harg : s.entryArg = some n) (hrefused : s.pollRefused n = true) :
    s.turnsAway .pollNow 0x07#8 0x04#8 0x00#8 := by
  change ∃ t, execPollNow s = .next t ∧ _
  exact command_turnedAway h
    (by simp only [takeCode_entryArg, harg, takeCode_pollRefused, hrefused, if_true]; rfl)

theorem pollNow_full {n : EntryNo} (h : s.takes) (harg : s.entryArg = some n) (haccepted : s.pollRefused n = false)
    (hfull : Config.oneShotMax ≤ (s.seg (s.entrySegment n)).oneShot.length) :
    s.turnsAway .pollNow 0x07#8 0x05#8 0x00#8 := by
  change ∃ t, execPollNow s = .next t ∧ _
  exact command_turnedAway h
    (by simp only [takeCode_entryArg, harg, takeCode_pollRefused, haccepted, takeCode_entrySegment, takeCode_seg, hfull,
          Bool.false_eq_true, if_false, if_true]; rfl)

theorem pollNow_duplicate {n : EntryNo} (h : s.takes) (harg : s.entryArg = some n) (haccepted : s.pollRefused n = false)
    (hroom : (s.seg (s.entrySegment n)).oneShot.length < Config.oneShotMax)
    (hin : n ∈ (s.seg (s.entrySegment n)).oneShot) : s.turnsAway .pollNow 0x07#8 0x06#8 0x00#8 := by
  change ∃ t, execPollNow s = .next t ∧ _
  exact command_turnedAway h
    (by simp only [takeCode_entryArg, harg, takeCode_pollRefused, haccepted, takeCode_entrySegment, takeCode_seg,
          hroom.not_ge, List.contains_iff_mem.2 hin, Bool.false_eq_true, if_false, if_true]; rfl)

theorem targetLoad_outOfRange (h : s.takes) (harg : s.targetArg = none) :
    s.turnsAway .targetLoad 0x05#8 0x02#8 0x00#8 := by
  change ∃ t, execTargetLoad s = .next t ∧ _
  exact command_turnedAway h (by simp only [takeCode_targetArg, harg]; rfl)

theorem targetLoad_invalid {k : TargetNo} {d : TargetDef} (h : s.takes) (harg : s.targetArg = some k)
    (hd : d = targetDefOf s.targetImageByte) (hcode : targetCode d (s.addressClash k d) ≠ 0) :
    s.turnsAway .targetLoad 0x05#8 0x03#8 (targetCode d (s.addressClash k d)) := by
  subst hd
  change ∃ t, execTargetLoad s = .next t ∧ _
  exact command_turnedAway h
    (by simp only [takeCode_targetArg, harg, takeCode_targetImageByte, takeCode_addressClash, ne_eq, hcode, not_false_iff,
          if_true]; rfl)

theorem targetLoad_wrongState {k : TargetNo} {d : TargetDef} (h : s.takes) (harg : s.targetArg = some k)
    (hd : d = targetDefOf s.targetImageByte) (hcode : targetCode d (s.addressClash k d) = 0)
    (hrunning : s.collector = .running) (hsegment : d.segment ≠ (s.target k).d.segment) :
    s.turnsAway .targetLoad 0x05#8 0x04#8 0x00#8 := by
  subst hd
  change ∃ t, execTargetLoad s = .next t ∧ _
  exact command_turnedAway h
    (by simp only [takeCode_targetArg, harg, takeCode_targetImageByte, takeCode_addressClash, ne_eq, hcode,
          not_true_eq_false, if_false, takeCode_collector, hrunning, takeCode_target, hsegment, not_false_iff, and_self,
          if_true]; rfl)

/-- TARGET_HOLD and TARGET_RELEASE share their checks (R156). -/
theorem onEnabledTarget_outOfRange {code : Byte} {f : TargetNo → State → State} (harg : s.targetArg = none) :
    onEnabledTarget f (takeCode code s) = complete 0x02#8 0x00#8 (takeCode code s) := by
  simp only [onEnabledTarget, takeCode_targetArg, harg]; rfl

theorem onEnabledTarget_disabled {code : Byte} {f : TargetNo → State → State} {k : TargetNo} (harg : s.targetArg = some k)
    (hd : (s.target k).d.enabled = false) :
    onEnabledTarget f (takeCode code s) = complete 0x04#8 0x00#8 (takeCode code s) := by
  simp only [onEnabledTarget, takeCode_targetArg, harg, takeCode_target, hd, Bool.false_eq_true, if_false]; rfl

theorem onEnabledTarget_enabled {code : Byte} {f : TargetNo → State → State} {k : TargetNo} (harg : s.targetArg = some k)
    (hd : (s.target k).d.enabled = true) :
    onEnabledTarget f (takeCode code s) = completeOk (f k (takeCode code s)) := by
  simp only [onEnabledTarget, takeCode_targetArg, harg, takeCode_target, hd, if_true]

theorem holdAndRelease_turnedAway {result : Byte} (h : s.takes)
    (hf : ∀ (code : Byte) (f : TargetNo → State → State),
      onEnabledTarget f (takeCode code s) = complete result 0x00#8 (takeCode code s)) :
    s.turnsAway .targetRelease 0x08#8 result 0x00#8 ∧ s.turnsAway .targetHold 0x09#8 result 0x00#8 := by
  constructor
  · change ∃ t, execTargetRelease s = .next t ∧ _
    exact command_turnedAway h (hf _ _)
  · change ∃ t, execTargetHold s = .next t ∧ _
    exact command_turnedAway h (hf _ _)

theorem rawTransfer_longWrite (h : s.takes) (hw : 16 < (s.rawByte 1).toNat) :
    s.turnsAway .rawTransfer 0x0A#8 0x03#8 0x01#8 := by
  change ∃ t, execRawTransfer s = .next t ∧ _
  exact command_turnedAway h (if_pos hw)

theorem rawTransfer_longRead (h : s.takes) (hw : (s.rawByte 1).toNat ≤ 16) (hr : 16 < (s.rawByte 2).toNat) :
    s.turnsAway .rawTransfer 0x0A#8 0x03#8 0x02#8 := by
  change ∃ t, execRawTransfer s = .next t ∧ _
  exact command_turnedAway h ((if_neg hw.not_gt).trans (if_pos hr))

theorem rawTransfer_faulted (h : s.takes) (hw : (s.rawByte 1).toNat ≤ 16) (hr : (s.rawByte 2).toNat ≤ 16)
    (hf : (s.engine s.rawParams.segment).state = .faulted) : s.turnsAway .rawTransfer 0x0A#8 0x04#8 0x00#8 := by
  change ∃ t, execRawTransfer s = .next t ∧ _
  exact command_turnedAway h
    ((if_neg hw.not_gt).trans ((if_neg hr.not_gt).trans (if_pos (by rw [takeCode_rawParams, takeCode_engine, hf]))))

/-- The conditions of R36 and R155 under which POLL_NOW is refused with STATE. -/
theorem State.pollRefused_iff (s : State) (n : EntryNo) : s.pollRefused n = true ↔
    s.collector ≠ .running ∨ (s.entry n).defined = false ∨ (s.target (s.entry n).d.target).d.enabled = false
      ∨ (s.target (s.entry n).d.target).health = .quarantined ∨ (s.target (s.entry n).d.target).health = .held
      ∨ (s.engine (s.target (s.entry n).d.target).d.segment).state = .faulted := by
  simp only [State.pollRefused, Bool.or_eq_true, bne_iff_ne, ne_eq, Bool.not_eq_true', State.sleeps_iff,
    Target.available_eq_false_iff, or_assoc]
  rfl

end

/-! ### The code of an image that is refused (R10, R16) -/

theorem joinBytes_eq_zero_iff (lo hi : Byte) : joinBytes lo hi = 0 ↔ lo = 0 ∧ hi = 0 := by
  rw [← BitVec.toNat_inj, ← BitVec.toNat_inj, ← BitVec.toNat_inj, toNat_joinBytes]
  change 256 * hi.toNat + lo.toNat = 0 ↔ lo.toNat = 0 ∧ hi.toNat = 0
  omega

theorem State.addressClash_iff (s : State) (k : TargetNo) (d : TargetDef) : s.addressClash k d = true ↔
    ∃ u, u ≠ k ∧ (s.target u).d.enabled = true ∧ (s.target u).d.segment = d.segment
      ∧ (s.target u).d.address = d.address := by
  simp [State.addressClash, allTargets, and_assoc]

/-- Of some conditions, the number of the first that holds, counted from k on, and 0 where none does. -/
def lowestCode (k : Nat) : List Bool → Nat
  | [] => 0
  | b :: bs => if b = true then k else lowestCode (k + 1) bs

theorem lowestCode_eq (bs : List Bool) : ∀ k, lowestCode (k + 1) bs =
    (match bs.findIdx? id with | some i => i + k + 1 | none => 0) := by
  induction bs with
  | nil => exact fun _ => rfl
  | cons b bs ih =>
    intro k
    cases b with
    | true => simp [lowestCode, List.findIdx?_cons]
    | false =>
      rw [lowestCode, if_neg Bool.false_ne_true, ih, List.findIdx?_cons]
      cases bs.findIdx? id with
      | none => rfl
      | some i => change i + (k + 1) + 1 = i + 1 + k + 1; omega

/-- A check made before others. -/
theorem toNat_check {p : Prop} [Decidable p] {b : Bool} {bs : List Bool} {c rest : Byte} (hp : p ↔ b = true)
    (hrest : rest.toNat = lowestCode (c.toNat + 1) bs) :
    (if p then c else rest).toNat = lowestCode c.toNat (b :: bs) := by
  by_cases h : p
  · rw [if_pos h, lowestCode, if_pos (hp.1 h)]
  · rw [if_neg h, lowestCode, if_neg fun hb => h (hp.2 hb), hrest]

/-- The code of an entry image is the number of the first condition of R10 that holds. -/
theorem toNat_entryCode (img : Nat → Byte) : (entryCode img).toNat =
    lowestCode 1 [decide (15 < (img 0).toNat), decide (8 < imageLength img),
      decide (imageLength img < (img 4).toNat + if (img 3).getLsbD 4 = true then 2 else 1),
      decide (img 6 = 0 ∧ img 7 = 0 ∧ (img 2).extractLsb' 6 2 ≠ 0),
      decide ((img 5).getLsbD 0 = true ∧ fieldInt ((img 3).getLsbD 5) (joinBytes (img 14) (img 15))
        < fieldInt ((img 3).getLsbD 5) (joinBytes (img 12) (img 13))),
      decide ((img 5).getLsbD 0 = true ∧ (img 5).extractLsb' 4 4 = 0)] := by
  have hzero : (entryDefOf img).period = 0 ∧ (entryDefOf img).tier ≠ 0 ↔
      img 6 = 0 ∧ img 7 = 0 ∧ (img 2).extractLsb' 6 2 ≠ 0 := by
    rw [← and_assoc, ← joinBytes_eq_zero_iff]
    rfl
  exact toNat_check decide_eq_true_iff.symm <| toNat_check decide_eq_true_iff.symm <|
    toNat_check decide_eq_true_iff.symm <| toNat_check (hzero.trans decide_eq_true_iff.symm) <|
    toNat_check decide_eq_true_iff.symm <| toNat_check decide_eq_true_iff.symm rfl

/-- The code of a target image is the number of the first condition of R16 that holds. -/
theorem toNat_targetCode (d : TargetDef) (clash : Bool) (h : d.enabled = true) : (targetCode d clash).toNat =
    lowestCode 1 [decide (d.address.toNat < 0x08 ∨ 0x77 < d.address.toNat), decide (d.threshold = 0),
      decide (d.baseBackoff.toNat < 10), decide (d.maxBackoff.toNat < d.baseBackoff.toNat), clash] := by
  unfold targetCode
  rw [if_neg (by simp [h])]
  exact toNat_check decide_eq_true_iff.symm <| toNat_check decide_eq_true_iff.symm <|
    toNat_check decide_eq_true_iff.symm <| toNat_check decide_eq_true_iff.symm <| toNat_check Iff.rfl rfl

/-- Settles O30. -/
theorem refusedCommandsChangeNothingElse : Obligations.RefusedCommandsChangeNothingElse := by
  refine ⟨fun s h => ⟨start_turnedAway h, stop_turnedAway h, fun harg => ?entryRange, fun harg => ?targetRange,
    fun harg hcode => ?entryInvalid, fun k harg d hd => ⟨?targetInvalid, ?targetState, ?disabled⟩,
    fun n harg g hg requests hrequests refused hrefused => ?poll,
    rawTransfer_longWrite h, rawTransfer_longRead h, rawTransfer_faulted h⟩, fun img length hlength signed hsigned =>
      ⟨fun h0 => ?empty, fun broken hbroken hne => ?entryCode⟩, fun s k d => ⟨fun hd => ?passes, fun broken hbroken hd => ?targetCode⟩⟩
  case entryRange =>
    exact ⟨entryLoad_outOfRange h (State.entryArg_eq_none harg), pollNow_outOfRange h (State.entryArg_eq_none harg)⟩
  case targetRange =>
    have hnone := State.targetArg_eq_none harg
    exact ⟨targetLoad_outOfRange h hnone, holdAndRelease_turnedAway h fun _ _ => onEnabledTarget_outOfRange hnone⟩
  case entryInvalid =>
    exact entryLoad_invalid (n := ⟨s.cu.arg.toNat, by omega⟩) h (State.entryArg_eq_some rfl) hcode
  case targetInvalid => exact targetLoad_invalid h (State.targetArg_eq_some harg) hd
  case targetState => exact targetLoad_wrongState h (State.targetArg_eq_some harg) hd
  case disabled =>
    exact fun hdisabled => holdAndRelease_turnedAway h fun _ _ => onEnabledTarget_disabled (State.targetArg_eq_some harg) hdisabled
  case poll =>
    subst hg hrequests
    have hrefused : refused = s.pollRefused n := by
      rw [hrefused, Bool.eq_iff_iff, decide_eq_true_iff, State.pollRefused_iff]
    subst hrefused
    have hsome := State.entryArg_eq_some harg
    exact ⟨pollNow_wrongState h hsome, pollNow_full h hsome, pollNow_duplicate h hsome⟩
  case empty => exact if_pos (hlength.symm.trans h0)
  case entryCode =>
    subst hlength hsigned hbroken
    rw [entryLoadCode_of_ne hne]
    exact (toNat_entryCode _).trans (lowestCode_eq _ _)
  case passes => simp [targetCode, hd]
  case targetCode =>
    have hclash : decide (∃ u, u ≠ k ∧ (s.target u).d.enabled = true ∧ (s.target u).d.segment = d.segment
        ∧ (s.target u).d.address = d.address) = s.addressClash k d := by
      rw [Bool.eq_iff_iff, decide_eq_true_iff, State.addressClash_iff]
    rw [hbroken, hclash]
    exact (toNat_targetCode d _ hd).trans (lowestCode_eq _ _)

end Sys2Proof.Machine
end

section
/-! PROOFS. Commands that are accepted (R36, R45, R68, R129, R130, R149 to R159). -/

namespace Sys2Proof.Machine

section
variable {s : State}

/-! ### Loads (R11, R17, R151, R154) -/

/-- What a wait for a deferred load shows. -/
theorem State.waitsAs.readReg {t : State} {code : Byte} {w : Wait} (h : s.waitsAs t code w) :
    t.readReg 0x06#7 = 0xFF#8 ∧ t.readReg 0x07#7 = w.reason := by
  obtain ⟨-, -, hcu⟩ := h
  constructor
  · change t.resultByte = _; simp [State.resultByte, State.busy, hcu, resPending]
  · change t.detailByte = _; simp [State.detailByte, hcu]

theorem waitsAs_beginWait (code : Byte) (w : Wait) (s : State) :
    s.waitsAs (advance (beginWait w (takeCode code s))) code w := ⟨rfl, rfl, rfl⟩

/-- A command that leaves the Command Unit, the flags and the Host Port to its completion. -/
theorem answeredAs_complete {u : State} {code result : Byte} (hhost : u.host = s.host) (hcu : u.cu = (takeCode code s).cu) :
    s.answeredAs (advance (complete result 0 u)) code result 0x00#8 := by
  constructor
  · change { u.host with pointer := nextPointer u.host.pointer } = _
    rw [hhost]
  · change { u.cu with wait := none, inProgress := none, result := result, detail := 0 } = _
    rw [hcu]
    rfl

theorem completedAs_complete {u : State} {code result : Byte} (hhost : u.host = s.host) (hcu : u.cu = (takeCode code s).cu)
    (hsticky : u.sticky = s.sticky) : s.completedAs (advance (complete result 0 u)) code result 0x00#8 := by
  refine ⟨answeredAs_complete hhost hcu, ?_⟩
  change { u.sticky with cmd := true } = _
  rw [hsticky]

theorem State.limitLawHolds.of_entries {t : State} (hs : s.limitLawHolds) (hl : t.limit = s.limit)
    (he : t.entries = s.entries) : t.limitLawHolds :=
  (State.limitFollows.of_entries (moves := true) hl he).1 hs

theorem exec_entryLoad_eq {n : EntryNo} (h : s.takes) (harg : s.entryArg = some n)
    (hcode : entryLoadCode s.entryImageByte = 0) : exec .entryLoad s = .next (advance
      (if (s.entry n).inFlight then beginWait (.entryLoad n (entryCandidate s.entryImageByte)) (takeCode 0x03#8 s)
       else completeOk (applyEntryLoad n (entryCandidate s.entryImageByte) (takeCode 0x03#8 s)))) := by
  change execEntryLoad s = _
  rw [execEntryLoad, command_of_takes h]
  simp only [takeCode_entryArg, harg, takeCode_entryImageByte, ne_eq, hcode, not_true_eq_false, if_false, takeCode_entry]
  rfl

theorem exec_targetLoad_eq {k : TargetNo} {d : TargetDef} (h : s.takes) (harg : s.targetArg = some k)
    (hd : d = targetDefOf s.targetImageByte) (hcode : targetCode d (s.addressClash k d) = 0)
    (hstate : ¬ (s.collector = .running ∧ d.segment ≠ (s.target k).d.segment)) : exec .targetLoad s = .next (advance
      (if s.targetInFlight k then beginWait (.targetLoad k d) (takeCode 0x05#8 s)
       else completeOk (applyTargetLoad k d (takeCode 0x05#8 s)))) := by
  subst hd
  change execTargetLoad s = _
  rw [execTargetLoad, command_of_takes h]
  simp only [takeCode_targetArg, harg, takeCode_targetImageByte, takeCode_addressClash, ne_eq, hcode, not_true_eq_false,
    if_false, takeCode_collector, takeCode_target, hstate, takeCode_targetInFlight]
  rfl

/-- Settles O31. -/
theorem loadsApplyOrAreDeferred : Obligations.LoadsApplyOrAreDeferred := by
  refine ⟨fun s n h harg hcode cand hcand => ?entry, fun s k h harg d hd hcode hstate => ?target⟩
  case entry =>
    subst hcand
    have hrun := exec_entryLoad_eq h (State.entryArg_eq_some harg) hcode
    refine ⟨fun hidle => ?_, fun hflight => ?_⟩
    · rw [hidle, if_neg Bool.false_ne_true] at hrun
      refine ⟨_, hrun, completedAs_complete (by simp) (by simp) (by simp), ?frame, ?loaded, fun m hm => ?others, fun x => ?seg,
        ?limit⟩
      case limit =>
        exact (applyEntryLoad_limitLawHolds n (entryCandidate s.entryImageByte) (takeCode 0x03#8 s)).of_entries rfl rfl
      case frame => apply State.ext <;> simp [completeOk, complete, advance, applyEntryLoad, clearBandPending]
      case loaded => simp [hidle, State.loadedEntry, Entry.empty]; rfl
      case others => simp [hm]
      case seg => simp; split <;> rfl
    · rw [hflight, if_pos rfl] at hrun
      have hwaits := waitsAs_beginWait 0x03#8 (.entryLoad n (entryCandidate s.entryImageByte)) s
      exact ⟨_, hrun, hwaits, rfl, hwaits.readReg⟩
  case target =>
    have hrun := exec_targetLoad_eq h (State.targetArg_eq_some harg) hd hcode hstate
    refine ⟨fun hidle => ?_, fun hflight => ?_⟩
    · rw [hidle, if_neg Bool.false_ne_true] at hrun
      refine ⟨_, hrun, completedAs_complete (by simp) (by simp) (by simp), ?frame, ?loaded, fun j hj => ?others, fun n => ?entry,
        fun x => ?seg⟩
      case frame => apply State.ext <;> simp [completeOk, complete, advance]
      case loaded => simp [Target.loaded]
      case others => simp [hj]
      case entry => simp; rfl
      case seg => simp; split <;> rfl
    · rw [hflight, if_pos rfl] at hrun
      have hwaits := waitsAs_beginWait 0x05#8 (.targetLoad k d) s
      exact ⟨_, hrun, hwaits, rfl, hwaits.readReg⟩

/-! ### POLL_NOW, RAW_TRANSFER, MARK and FLUSH (R36, R68, R129, R130) -/

/-- Settles O34. -/
theorem pollNowAppendsItsRequest : Obligations.PollNowAppendsItsRequest := by
  intro s n h harg hc hdef henabled hquarantined hheld hfaulted hroom hnew
  have haccepted : s.pollRefused n = false := by
    rw [← Bool.not_eq_true, State.pollRefused_iff]
    change _ at hfaulted
    simp only [State.entrySegment] at hfaulted
    simp [hc, hdef, henabled, hquarantined, hheld, hfaulted]
  have hrun : exec .pollNow s = .next (advance (completeOk ((takeCode 0x07#8 s).modSeg (s.entrySegment n) fun g =>
      { g with oneShot := g.oneShot ++ [n] }))) := by
    change execPollNow s = _
    rw [execPollNow, command_of_takes h]
    simp only [takeCode_entryArg, State.entryArg_eq_some harg, takeCode_pollRefused, haccepted, takeCode_entrySegment,
      takeCode_seg, show ¬ Config.oneShotMax ≤ (s.seg (s.entrySegment n)).oneShot.length from not_le.2 hroom,
      List.contains_eq_mem, hnew, decide_false, Bool.false_eq_true, if_false]
  refine ⟨_, hrun, completedAs_complete (by simp) (by simp) (by simp), ?frame, fun x => ?seg⟩
  case frame => apply State.ext <;> simp [completeOk, complete, advance]
  case seg => simp only [advance_seg, completeOk_seg, State.seg_modSeg, takeCode_seg]; split <;> rfl

theorem exec_rawTransfer_eq (h : s.takes) (hw : (s.rawByte 1).toNat ≤ 16) (hr : (s.rawByte 2).toNat ≤ 16)
    (hf : (s.engine s.rawParams.segment).state ≠ .faulted) : exec .rawTransfer s = .next (advance
      ((beginWait (.raw .pending s.rawParams) (takeCode 0x0A#8 s)).modSeg s.rawParams.segment fun g =>
        { g with rawPending := true })) := by
  change execRawTransfer s = _
  rw [execRawTransfer, command_of_takes h, takeCode_rawByte, takeCode_rawByte, takeCode_rawParams, takeCode_engine,
    if_neg hw.not_gt, if_neg hr.not_gt, if_neg hf]

/-- Settles O36. -/
theorem rawTransferBecomesPending : Obligations.RawTransferBecomesPending := by
  rintro s h hw hr r rfl hf
  have hwaits : s.waitsAs (advance ((beginWait (.raw .pending s.rawParams) (takeCode 0x0A#8 s)).modSeg s.rawParams.segment
      fun g => { g with rawPending := true })) 0x0A#8 (.raw .pending s.rawParams) := by
    refine ⟨?_, ?_, ?_⟩ <;> simp [State.byteDone, beginWait, takeCode]
  refine ⟨_, exec_rawTransfer_eq h hw hr hf, hwaits, ?frame, fun x => ?seg, hwaits.readReg.2, rfl, rfl, ?writes, ?bytes,
    ?reads, rfl, rfl⟩
  case frame => apply State.ext <;> simp [advance, beginWait, takeCode]
  case seg => simp only [advance_seg, beginWait_seg, State.seg_modSeg, takeCode_seg]; split <;> rfl
  case writes => simp [State.rawParams]
  case bytes =>
    intro i hi
    rw [List.getD_eq_getElem _ _ hi]
    simp [State.rawParams, rawBufferBase]
  case reads => exact Nat.mod_eq_of_lt (Nat.lt_succ_of_le hr)

/-- Settles O37. -/
theorem markAndFlushActOnTheQueue : Obligations.MarkAndFlushActOnTheQueue := by
  refine fun s h => ⟨?mark, ?flush⟩
  case mark =>
    intro a ha
    have hrun : exec .mark s = .next (advance (complete (if a.written then resOk else resLost) 0
        { takeCode 0x0B#8 s with queue := a.queue, sticky := { s.sticky with loss := s.sticky.loss || a.loss } })) := by
      subst ha
      change execMark s = _
      exact command_of_takes h
    exact ⟨_, hrun, answeredAs_complete rfl rfl, rfl⟩
  case flush =>
    have hrun : exec .flush s = .next (advance (completeOk
        { takeCode 0x0C#8 s with queue := Queue.reset, sticky := { s.sticky with loss := false } })) := by
      change execFlush s = _
      exact command_of_takes h
    exact ⟨_, hrun, answeredAs_complete rfl rfl, rfl⟩

/-! ### ABORT (R159) -/

theorem exec_abort_eq (h : s.writing 0x04#7) : exec .abort s = .next (advance (abortBody s)) := by
  change execAbort s = _
  exact writeByte_of_writing h

/-- Settles O38: row by row of `abortBody`. -/
theorem abortByWaitReason : Obligations.AbortByWaitReason := by
  refine fun s h => ⟨fun hw => ?ready, ?collector, ?load, fun r hw => ?pending, fun r st hst hw => ?onSegment⟩
  case ready =>
    have hbody : abortBody s = completeOk (takeCode 0x0F#8 s) := by simp only [abortBody, hw]
    exact ⟨_, exec_abort_eq h, hbody ▸ completedAs_complete rfl rfl rfl, hbody ▸ rfl⟩
  case collector =>
    intro hw
    have hbody : abortBody s = notTaken s := by rcases hw with hw | hw <;> simp only [abortBody, hw]
    rw [exec_abort_eq h, hbody, advance, notTaken_host, h.pointer, nextPointer_four]
    rfl
  case load =>
    intro hw
    have hbody : abortBody s = complete resAborted 0 (takeCode 0x0F#8 s) := by
      rcases hw with ⟨n, c, hw⟩ | ⟨k, d, hw⟩ <;> simp only [abortBody, hw]
    exact ⟨_, exec_abort_eq h, hbody ▸ completedAs_complete rfl rfl rfl, hbody ▸ rfl⟩
  case pending =>
    have hbody : abortBody s = complete resAborted 0 ((takeCode 0x0F#8 s).modSeg r.segment fun g =>
        { g with rawPending := false }) := by simp only [abortBody, hw]
    refine ⟨_, exec_abort_eq h, hbody ▸ completedAs_complete (by simp) (by simp) (by simp), ?frame, fun x => ?seg⟩
    case frame => rw [hbody]; apply State.ext <;> simp [complete, advance]
    case seg =>
      rw [hbody]
      simp only [advance_seg, complete_seg, State.seg_modSeg, takeCode_seg]
      split <;> rfl
  case onSegment =>
    have hbody : abortBody s = { takeCode 0x0F#8 s with
        cu := { (takeCode 0x0F#8 s).cu with wait := some (.raw .aborted r) } } := by
      rcases hst with rfl | rfl
      · simp only [abortBody, hw]
      · simp only [abortBody, hw]
        rw [← hw]
        rfl
    exact ⟨_, exec_abort_eq h, hbody ▸ rfl, hbody ▸ rfl, hbody ▸ rfl, hbody ▸ rfl, hbody ▸ rfl, hbody ▸ rfl⟩

end

end Sys2Proof.Machine
end

section
/-! PROOFS. The collector: START, STOP and the entry into RUNNING (R25 to R28), attention edges (R39, R40), holds and
releases of targets (R83, R84), and time (R21, R79). -/

namespace Sys2Proof.Machine

/-! ### Attention at the entry into RUNNING and at an edge (R26, R39, R40) -/

section
variable (s : State) (n : EntryNo) (k : TargetNo) (x y : Segment)

/-- At the entry into RUNNING segment x's input counts as a falling edge (R26). -/
def State.startAttends : Bool := ((s.engine x).state != .faulted) && (s.seg x).attnEnable && !(s.seg x).attnHigh

theorem State.attends_iff : s.attends x n = true ↔
    (s.engine x).state ≠ .faulted ∧ (s.entry n).defined = true ∧ (s.entry n).d.attention = true ∧ s.entrySegment n = x
      ∧ (s.target (s.entry n).d.target).available = true := by
  simp [State.attends, and_assoc]

theorem State.attends_modSeg {f : Seg → Seg} (hf : ∀ g, (f g).engine = g.engine) :
    (s.modSeg x f).attends y n = s.attends y n := by
  have hengine : (s.modSeg x f).engine y = s.engine y := by
    rw [State.engine, State.seg_modSeg]
    split
    · exact hf _
    · rfl
  unfold State.attends
  rw [hengine]
  simp [State.entrySegment]

@[simp] theorem startAttention_target : (startAttention x s).target k = s.target k :=
  State.target_congr (by simp) k

@[simp] theorem startAttention_seg : (startAttention x s).seg y =
    if y = x ∧ s.startAttends x = true then { s.seg y with attnArmed := false } else s.seg y := by
  unfold startAttention
  change (State.seg (if s.startAttends x = true then _ else _) y) = _
  cases s.startAttends x <;> simp

@[simp] theorem startAttention_entry : (startAttention x s).entry n =
    if s.startAttends x = true ∧ s.attends x n = true then { s.entry n with due := some .attention } else s.entry n := by
  unfold startAttention
  change (State.entry (if s.startAttends x = true then _ else _) n) = _
  cases s.startAttends x
  · simp
  · simp [State.attends_modSeg s n x x (f := fun g => { g with attnArmed := false }) fun _ => rfl]

@[simp] theorem startAttention_startAttends : (startAttention x s).startAttends y = s.startAttends y := by
  unfold State.startAttends State.engine
  rw [startAttention_seg]
  split <;> rfl

@[simp] theorem startAttention_attends : (startAttention x s).attends y n = s.attends y n := by
  unfold State.attends State.engine State.entrySegment
  rw [startAttention_seg, startAttention_entry]
  split <;> split <;> simp

/-! ### The entry into RUNNING (R25, R26, R86) -/

/-- The tables as the collector enters RUNNING, before its attention inputs are looked at (R26, R86). -/
def State.started : State :=
  reevaluateLimit ((({ s with collector := .running } : State).mapEntries fun _ e => e.started s.tickCount).mapTargets
    Target.started)

theorem enterRunning_eq : enterRunning s = completeOk (startAttention .b (startAttention .a s.started)) := rfl

@[simp] theorem State.started_entry : s.started.entry n = (s.entry n).started s.tickCount := by
  rw [State.started, reevaluateLimit_entry, State.entry_mapTargets, State.entry_mapEntries]
  rfl

@[simp] theorem State.started_target : s.started.target k = (s.target k).started := by
  rw [State.started, reevaluateLimit_target, State.target_mapTargets, State.target_mapEntries]
  rfl

@[simp] theorem State.started_seg : s.started.seg x = s.seg x := by
  rw [State.started, reevaluateLimit_seg, State.seg_mapTargets, State.seg_mapEntries]
  cases x <;> rfl

@[simp] theorem State.started_startAttends : s.started.startAttends x = s.startAttends x := by
  simp only [State.startAttends, State.engine, State.started_seg]

theorem Entry.started_d (e : Entry) (now : Long) : (e.started now).d = e.d := by unfold Entry.started; split <;> rfl

theorem Entry.started_defined (e : Entry) (now : Long) : (e.started now).defined = e.defined := by
  unfold Entry.started; split <;> rfl

theorem Entry.started_inFlight (e : Entry) (now : Long) : (e.started now).inFlight = e.inFlight := by
  unfold Entry.started; split <;> rfl

theorem Entry.started_due (e : Entry) (now : Long) : (e.started now).due = e.due := by unfold Entry.started; split <;> rfl

theorem Target.started_d (g : Target) : g.started.d = g.d := by unfold Target.started; split <;> rfl

theorem Target.started_available (g : Target) : g.started.available = true ↔ g.d.enabled = true ∧ g.health ≠ .held := by
  unfold Target.started Target.available
  cases he : g.d.enabled <;> cases hh : g.health <;> simp [he, hh]

/-- Entry n is put in the attention class at the entry into RUNNING (R26). -/
def State.attendsAtStart : Prop :=
  s.startAttends (s.entrySegment n) = true ∧ (s.entry n).defined = true ∧ (s.entry n).d.attention = true
    ∧ (s.target (s.entry n).d.target).d.enabled = true ∧ (s.target (s.entry n).d.target).health ≠ .held

theorem State.started_attends_iff : s.startAttends x = true ∧ s.started.attends x n = true ↔
    s.entrySegment n = x ∧ s.attendsAtStart n := by
  rw [State.attends_iff, State.entrySegment, State.engine]
  simp only [State.started_entry, State.started_target, State.started_seg, Entry.started_d, Entry.started_defined,
    Target.started_d, Target.started_available]
  unfold State.attendsAtStart
  constructor
  · rintro ⟨hstart, -, hdef, hattn, rfl, havail⟩
    exact ⟨rfl, hstart, hdef, hattn, havail⟩
  · rintro ⟨rfl, hstart, hdef, hattn, havail⟩
    have hfaulted : (s.engine (s.entrySegment n)).state ≠ .faulted := by
      intro hf
      simp [State.startAttends, hf] at hstart
    exact ⟨hstart, hfaulted, hdef, hattn, rfl, havail⟩

open Classical in
theorem enterRunning_entry : (enterRunning s).entry n =
    if s.attendsAtStart n then { (s.entry n).started s.tickCount with due := some .attention }
    else (s.entry n).started s.tickCount := by
  rw [enterRunning_eq, completeOk_entry]
  simp only [startAttention_entry, startAttention_startAttends, startAttention_attends, State.started_startAttends,
    State.started_attends_iff, State.started_entry]
  by_cases h : s.attendsAtStart n
  · cases s.entrySegment n <;> simp [h]
  · simp [h]

theorem enterRunning_target : (enterRunning s).target k = (s.target k).started := by
  rw [enterRunning_eq, completeOk_target, startAttention_target, startAttention_target, State.started_target]

theorem enterRunning_seg : (enterRunning s).seg y =
    if s.startAttends y = true then { s.seg y with attnArmed := false } else s.seg y := by
  rw [enterRunning_eq, completeOk_seg]
  simp only [startAttention_seg, startAttention_startAttends, State.started_startAttends, State.started_seg]
  cases y <;> simp

theorem enterRunning_collector : (enterRunning s).collector = .running := by
  rw [enterRunning_eq]; simp [State.started]

/-- Every DEFINED entry is NORMAL at the entry into RUNNING, so that none drives LIMIT (R26, R106). -/
theorem enterRunning_limit : (enterRunning s).limit = false := by
  have hlimit : (enterRunning s).limit = s.started.limit := by rw [enterRunning_eq]; simp
  have hlaw : s.started.limit = s.started.limitLaw := reevaluateLimit_limitLawHolds _
  rw [hlimit, hlaw, ← Bool.not_eq_true, State.limitLaw_eq_true_iff]
  rintro ⟨m, hm⟩
  rw [State.started_entry, Entry.drivesLimit_iff, Entry.started_defined] at hm
  simp [Entry.started, hm.1] at hm

theorem completeOk_cu : (completeOk s).cu = { s.cu with wait := none, inProgress := none, result := 0x01#8, detail := 0 } :=
  rfl

theorem completeOk_sticky : (completeOk s).sticky = { s.sticky with cmd := true } := rfl

theorem enterRunning_cu : (enterRunning s).cu = (completeOk s).cu := by
  rw [enterRunning_eq, completeOk_cu, completeOk_cu, startAttention_cu, startAttention_cu, State.started, reevaluateLimit_cu,
    State.mapTargets_cu, State.mapEntries_cu]

theorem enterRunning_sticky : (enterRunning s).sticky = { s.sticky with cmd := true } := by
  rw [enterRunning_eq, completeOk_sticky, startAttention_sticky, startAttention_sticky, State.started,
    reevaluateLimit_sticky, State.mapTargets_sticky, State.mapEntries_sticky]

end

end Sys2Proof.Machine
end

section
/-! PROOFS. START and STOP (R25 to R28, R149, R150). -/

namespace Sys2Proof.Machine

/-! ### Tables and segments make up what other fields leave of a state -/

/-- Two states with the same entries, targets and segments, and the same other fields. -/
theorem State.ext_tables {s t : State} (hentry : ∀ n, s.entry n = t.entry n) (htarget : ∀ k, s.target k = t.target k)
    (hseg : ∀ x, s.seg x = t.seg x)
    (hrest : s = { t with entries := s.entries, targets := s.targets, segA := s.segA, segB := s.segB }) : s = t := by
  have hentries : s.entries = t.entries := Vector.ext fun i hi => hentry ⟨i, hi⟩
  have htargets : s.targets = t.targets := Vector.ext fun i hi => htarget ⟨i, hi⟩
  rw [hrest, hentries, htargets, show s.segA = t.segA from hseg .a, show s.segB = t.segB from hseg .b]

section
variable {s : State}

/-- Everything the entry into RUNNING leaves (R25, R26). -/
theorem enterRunning_frame' (s : State) : enterRunning s =
    { s with collector := .running, limit := false, entries := (enterRunning s).entries, targets := (enterRunning s).targets
             segA := (enterRunning s).segA, segB := (enterRunning s).segB, cu := (completeOk s).cu
             sticky := { s.sticky with cmd := true } } := by
  rw [← enterRunning_cu, ← enterRunning_sticky, ← enterRunning_limit s, ← enterRunning_collector s]
  exact enterRunning_frame s

/-- The byte that has completed does not matter to the entry into RUNNING. -/
theorem enterRunning_advance (s : State) : enterRunning (advance s) = advance (enterRunning s) := by
  refine State.ext_tables (fun n => ?_) (fun k => ?_) (fun x => ?_) ?_
  · have hattends : (advance s).attendsAtStart n ↔ s.attendsAtStart n := by
      simp [State.attendsAtStart, State.startAttends, State.engine, State.entrySegment]
    simp only [enterRunning_entry, advance_entry, hattends]
    rfl
  · simp only [enterRunning_target, advance_target]
  · have hstart : (advance s).startAttends x = s.startAttends x := by simp [State.startAttends, State.engine]
    simp only [enterRunning_seg, advance_seg, hstart]
  · rw [enterRunning_frame' (advance s), enterRunning_frame' s]
    rfl

theorem State.startAttends_iff (s : State) (x : Segment) : s.startAttends x = true ↔
    (s.engine x).state ≠ .faulted ∧ (s.seg x).attnEnable = true ∧ (s.seg x).attnHigh = false := by
  simp [State.startAttends, and_assoc]

/-! ### START (R25, R48, R52, R149) -/

/-- The unit waits for START: both segments are latched and checked (R48, R52). -/
def State.starting (s : State) : State :=
  beginWait .start ((takeCode 0x01#8 s).mapSegs fun g => g.latch.busCheck)

theorem exec_start_eq (h : s.takes) (hc : s.collector = .stopped) : exec .start s =
    .next (advance (if s.starting.prepared then enterRunning s.starting else s.starting)) := by
  change execStart s = _
  rw [execStart, command_of_takes h, if_neg (by simp [hc])]
  rfl

theorem Seg.busCheck_eq (g : Seg) : g.busCheck = g.withEngine fun e =>
    { e with state := if g.linesHigh then .idle else e.state, stage := if g.linesHigh then .none else .busCheck } := by
  unfold Seg.busCheck
  split <;> rfl

theorem Seg.preparing_busCheck (g : Seg) : g.busCheck.preparing = !g.linesHigh := by
  rw [Seg.busCheck_eq]
  cases h : g.linesHigh <;> simp [Seg.preparing, Seg.withEngine]

theorem State.starting_prepared (s : State) :
    s.starting.prepared = (s.segA.linesHigh && s.segB.linesHigh) := by
  change (!(s.segA.latch.busCheck).preparing && !(s.segB.latch.busCheck).preparing) = _
  rw [Seg.preparing_busCheck, Seg.preparing_busCheck, Bool.not_not, Bool.not_not]
  rfl

theorem exec_collectorEnterRunning_eq (hr : s.inReset = false) (hw : s.cu.wait = some .start) (hp : s.prepared = true) :
    exec .collectorEnterRunning s = .next (enterRunning s) := by
  change execCollectorEnterRunning s = _
  rw [execCollectorEnterRunning, running_of_not_inReset hr, hw, hp]
  rfl

/-- Settles O32. -/
theorem startAndTheEntryIntoRunning : Obligations.StartAndTheEntryIntoRunning := by
  refine ⟨fun s h hc => ?start, fun s hr hw ha hb => ?enter⟩
  case start =>
    have hwaits : s.waitsAs (advance s.starting) 0x01#8 .start := ⟨rfl, rfl, rfl⟩
    refine ⟨advance s.starting, hwaits, rfl, fun x => ?seg, fun ha hb => ?ready, fun hlow => ?low⟩
    case seg =>
      rw [advance_seg, State.starting, beginWait_seg, State.seg_mapSegs, takeCode_seg, Seg.busCheck_eq]
      rfl
    case ready =>
      have hprepared : s.starting.prepared = true := by rw [State.starting_prepared, ha, hb]; rfl
      refine ⟨_, exec_start_eq h hc, ?_, ?_, ?_⟩
      · rw [hprepared, if_pos rfl, ← enterRunning_advance]
        exact exec_collectorEnterRunning_eq h.1.1 rfl hprepared
      · rw [hprepared, if_pos rfl, advance_collector, enterRunning_collector]
      · rw [hprepared, if_pos rfl, enterRunning_frame']
        exact ⟨⟨rfl, rfl⟩, rfl⟩
    case low =>
      have hprepared : s.starting.prepared = false := by
        rw [State.starting_prepared, ← Bool.not_eq_true, Bool.and_eq_true]
        exact hlow
      refine ⟨?_, hwaits.readReg.2⟩
      rw [exec_start_eq h hc, hprepared, if_neg Bool.false_ne_true]
  case enter =>
    refine ⟨_, exec_collectorEnterRunning_eq hr hw (by rw [State.prepared, ha, hb]; rfl), ?ends, ?frame, fun k => ?target,
      fun x => ?seg, ?entry⟩
    case ends => rw [State.endsAs, enterRunning_cu, enterRunning_sticky]; exact ⟨rfl, rfl⟩
    case frame => rw [enterRunning_cu]; exact enterRunning_frame' s
    case target => rw [enterRunning_target]; simp [Target.started]
    case seg =>
      rw [enterRunning_seg]
      by_cases hstart : s.startAttends x = true
      · rw [if_pos hstart, if_pos (s.startAttends_iff x |>.1 hstart)]
      · rw [if_neg hstart, if_neg fun h => hstart (s.startAttends_iff x |>.2 h)]
    case entry =>
      rintro n _ rfl due hdue
      rw [enterRunning_entry]
      by_cases hdef : (s.entry n).defined = true
      · rw [if_pos hdef, Entry.started, if_pos hdef]
        by_cases hattends : s.attendsAtStart n
        · obtain ⟨hstart, -, hattn, henabled, hheld⟩ := hattends
          rw [if_pos ⟨hstart, hdef, hattn, henabled, hheld⟩, hdue,
            if_pos ⟨hdef, hattn, henabled, hheld, (s.startAttends_iff _).1 hstart⟩]
        · rw [if_neg hattends, hdue, if_neg]
          rintro ⟨-, hattn, henabled, hheld, hstart⟩
          exact hattends ⟨(s.startAttends_iff _).2 hstart, hdef, hattn, henabled, hheld⟩
      · rw [if_neg hdef, if_neg fun h => hdef h.2.1, Entry.started, if_neg hdef]

/-! ### STOP (R27, R28, R150) -/

/-- The lists are empty and the drain goes on (R27). -/
def State.stopping (s : State) : State :=
  beginWait .stop { emptyLists .b (emptyLists .a (takeCode 0x02#8 s)) with collector := .stopping }

theorem exec_stop_eq (h : s.takes) (hc : s.collector = .running) : exec .stop s =
    .next (advance (if s.stopping.drained then enterStopped s.stopping else s.stopping)) := by
  change execStop s = _
  rw [execStop, command_of_takes h, if_neg (by simp [hc])]
  rfl

@[simp] theorem emptyLists_entrySegment (x : Segment) (s : State) (n : EntryNo) :
    (emptyLists x s).entrySegment n = s.entrySegment n := by
  unfold State.entrySegment
  rw [emptyLists_target, emptyLists_entry]
  split <;> rfl

@[simp] theorem State.stopping_entry (s : State) (n : EntryNo) : s.stopping.entry n = { s.entry n with due := none } := by
  have htables : s.stopping.entry n = (emptyLists .b (emptyLists .a (takeCode 0x02#8 s))).entry n :=
    State.entry_congr (by rw [State.stopping, beginWait_entries]) n
  rw [htables, emptyLists_entry, emptyLists_entrySegment, emptyLists_entry, takeCode_entrySegment, takeCode_entry]
  cases s.entrySegment n <;> rfl

@[simp] theorem State.stopping_target (s : State) (k : TargetNo) : s.stopping.target k = s.target k := by
  have htables : s.stopping.target k = (emptyLists .b (emptyLists .a (takeCode 0x02#8 s))).target k :=
    State.target_congr (by rw [State.stopping, beginWait_targets]) k
  rw [htables]
  simp

@[simp] theorem State.stopping_seg (s : State) (x : Segment) : s.stopping.seg x = { s.seg x with oneShot := [] } := by
  have htables : s.stopping.seg x = (emptyLists .b (emptyLists .a (takeCode 0x02#8 s))).seg x :=
    State.seg_congr (by rw [State.stopping, beginWait_segA]) (by rw [State.stopping, beginWait_segB]) x
  rw [htables]
  cases x <;> simp

theorem State.stopping_frame (s : State) : s.stopping =
    { beginWait .stop (takeCode 0x02#8 s) with
      collector := .stopping, entries := s.stopping.entries, segA := s.stopping.segA, segB := s.stopping.segB } := by
  apply State.ext <;> simp [State.stopping, beginWait]

/-- The drain is read from the engines and the in-flight flags. -/
theorem State.drained_congr {s t : State} (hengine : ∀ x, t.engine x = s.engine x)
    (hentry : ∀ n, (t.entry n).inFlight = (s.entry n).inFlight ∧ t.entrySegment n = s.entrySegment n) :
    t.drained = s.drained := by
  simp only [State.drained, State.segInFlight, hengine, (hentry _).1, (hentry _).2]

theorem State.stopping_drained (s : State) : s.stopping.drained = s.drained :=
  State.drained_congr (fun x => by rw [State.engine, State.stopping_seg]; rfl) fun n => by simp [State.entrySegment]

theorem enterStopped_of_stop (hw : s.cu.wait = some .stop) :
    enterStopped s = completeOk { s with collector := .stopped } := if_pos hw

/-- Settles O33. -/
theorem stopDrainsAndEnds : Obligations.StopDrainsAndEnds := by
  refine ⟨fun s h hc => ?stop, fun s hr hc hd hw => ?ends⟩
  case stop =>
    have hentered : enterStopped s.stopping = completeOk { s.stopping with collector := .stopped } := enterStopped_of_stop rfl
    have hwaits : s.waitsAs (advance s.stopping) 0x02#8 .stop := by
      rw [s.stopping_frame]
      exact ⟨rfl, rfl, rfl⟩
    refine ⟨_, exec_stop_eq h hc, fun n => ?entry, fun x => ?seg, fun hd => ?drained, fun hd => ?draining, ?frame⟩
    case entry => rw [State.stopping_drained]; split <;> simp
    case seg => rw [State.stopping_drained]; split <;> simp
    case drained =>
      rw [State.stopping_drained, hd, if_pos rfl, hentered, s.stopping_frame]
      exact ⟨⟨⟨rfl, rfl⟩, rfl⟩, rfl⟩
    case draining =>
      rw [State.stopping_drained, hd, if_neg Bool.false_ne_true]
      exact ⟨hwaits, rfl, hwaits.readReg.2⟩
    case frame =>
      split
      · rw [hentered, s.stopping_frame]; rfl
      · rw [s.stopping_frame]; rfl
  case ends =>
    have hrun : exec .collectorEnterStopped s = .next (enterStopped s) := by
      change execCollectorEnterStopped s = _
      rw [execCollectorEnterStopped, running_of_not_inReset hr, hc, hd]
      rfl
    rw [enterStopped_of_stop hw] at hrun
    exact ⟨_, hrun, ⟨rfl, rfl⟩, rfl⟩

end

end Sys2Proof.Machine
end

section
/-! PROOFS. Holds and releases of targets (R83, R84), time (R21, R79) and attention edges (R39, R40). -/

namespace Sys2Proof.Machine

/-! ### TARGET_HOLD and TARGET_RELEASE (R83, R84) -/

section
variable (s : State) (n : EntryNo) (k j : TargetNo) (x : Segment)

/-- A target that is held (R83). -/
def Target.holding (g : Target) : Target := { g with health := .held, remaining := 0 }

/-- A target that is released (R84). -/
def Target.released (g : Target) : Target :=
  { g with health := .active, failures := 0, remaining := 0, current := g.d.baseBackoff.toNat }

@[simp] theorem holdTarget_entry : (holdTarget k s).entry n =
    if (s.entry n).d.target = k then { s.entry n with due := none } else s.entry n := by
  simp only [holdTarget, admitRecords_entry, setHealthFlag_entry, State.entry_setTarget, unlistTarget_entry]

@[simp] theorem holdTarget_target : (holdTarget k s).target j = if j = k then (s.target k).holding else s.target j := by
  simp only [holdTarget, admitRecords_target, setHealthFlag_target, State.target_setTarget, unlistTarget_target]
  rfl

@[simp] theorem holdTarget_seg : (holdTarget k s).seg x =
    if x = (s.target k).d.segment
    then { s.seg x with oneShot := (s.seg x).oneShot.filter fun n => (s.entry n).d.target != k } else s.seg x := by
  simp only [holdTarget, admitRecords_seg, setHealthFlag_seg, State.seg_setTarget, unlistTarget_seg]

/-- The HELD record and the DROPPED records of a hold, in order (R78, R83). -/
def State.holdRecords : List Body :=
  .fault (some k) none .held (some .held) (s.target k).failures
    :: ((s.seg (s.target k).d.segment).oneShot.filter fun n => (s.entry n).d.target == k).map fun n =>
        .fault (some k) (some n) .dropped (some .held) (s.target k).failures

theorem admitRecords_queue (bs : List Body) :
    (admitRecords bs s).queue = (s.queue.admitGroup s.ctrl.evict s.port.pinned s.stamp bs).1 := rfl

theorem admitRecords_sticky (bs : List Body) : (admitRecords bs s).sticky =
    { s.sticky with loss := s.sticky.loss || (s.queue.admitGroup s.ctrl.evict s.port.pinned s.stamp bs).2 } := rfl

theorem holdTarget_eq : holdTarget k s =
    admitRecords (s.holdRecords k) (setHealthFlag ((unlistTarget k s).setTarget k (s.target k).holding)) := rfl

theorem holdTarget_queue : (holdTarget k s).queue =
    (s.queue.admitGroup s.ctrl.evict s.port.pinned s.stamp (s.holdRecords k)).1 := by
  rw [holdTarget_eq, admitRecords_queue]
  simp [State.stamp]

theorem holdTarget_sticky : (holdTarget k s).sticky = { s.sticky with
    health := true
    loss := s.sticky.loss || (s.queue.admitGroup s.ctrl.evict s.port.pinned s.stamp (s.holdRecords k)).2 } := by
  rw [holdTarget_eq, admitRecords_sticky]
  simp [State.stamp, setHealthFlag]

theorem holdTarget_frame : holdTarget k s =
    { s with entries := (holdTarget k s).entries, targets := (holdTarget k s).targets, segA := (holdTarget k s).segA
             segB := (holdTarget k s).segB, queue := (holdTarget k s).queue, sticky := (holdTarget k s).sticky } := by
  apply State.ext <;> simp [holdTarget]

@[simp] theorem releaseTarget_target :
    (releaseTarget k s).target j = if j = k then (s.target k).released else s.target j := by
  simp only [releaseTarget, admitRecords_target, setHealthFlag_target, State.target_setTarget]
  rfl

/-- The record of a release (R84). -/
def releaseRecords : List Body := [.fault (some k) none .released (some .active) 0]

theorem releaseTarget_frame : releaseTarget k s =
    { s with targets := (releaseTarget k s).targets
             queue := (s.queue.admitGroup s.ctrl.evict s.port.pinned s.stamp (releaseRecords k)).1
             sticky := { s.sticky with
               health := true
               loss := s.sticky.loss
                 || (s.queue.admitGroup s.ctrl.evict s.port.pinned s.stamp (releaseRecords k)).2 } } := rfl

end

theorem exec_targetHold_eq {s : State} {k : TargetNo} (h : s.takes) (harg : s.targetArg = some k)
    (hd : (s.target k).d.enabled = true) : exec .targetHold s = .next (advance (completeOk
      (if (s.target k).health = .held then takeCode 0x09#8 s else holdTarget k (takeCode 0x09#8 s)))) := by
  change execTargetHold s = _
  rw [execTargetHold, command_of_takes h, onEnabledTarget_enabled harg hd]
  rfl

theorem exec_targetRelease_eq {s : State} {k : TargetNo} (h : s.takes) (harg : s.targetArg = some k)
    (hd : (s.target k).d.enabled = true) : exec .targetRelease s = .next (advance (completeOk
      (if (s.target k).health = .active then takeCode 0x08#8 s else releaseTarget k (takeCode 0x08#8 s)))) := by
  change execTargetRelease s = _
  rw [execTargetRelease, command_of_takes h, onEnabledTarget_enabled harg hd]
  rfl

/-- Settles O35. -/
theorem holdAndReleaseOfATarget : Obligations.HoldAndReleaseOfATarget := by
  intro s k h harg hd
  have hsome := State.targetArg_eq_some harg
  have hhold := exec_targetHold_eq h hsome hd
  have hrelease := exec_targetRelease_eq h hsome hd
  refine ⟨fun hh => ?held, fun hh => ?active, fun hh bs hbs r hr => ?hold, fun hh r hr => ?release⟩
  case held => rw [if_pos hh] at hhold; exact ⟨_, hhold, completedAs_complete rfl rfl rfl, rfl⟩
  case active => rw [if_pos hh] at hrelease; exact ⟨_, hrelease, completedAs_complete rfl rfl rfl, rfl⟩
  case hold =>
    rw [if_neg hh] at hhold
    have hrecords : (takeCode 0x09#8 s).holdRecords k = bs := by rw [hbs, State.holdRecords]; simp
    have hqueue : (holdTarget k (takeCode 0x09#8 s)).queue = r.1 := by rw [holdTarget_queue, hrecords, hr]; rfl
    have hsticky : (holdTarget k (takeCode 0x09#8 s)).sticky
        = { s.sticky with health := true, loss := s.sticky.loss || r.2 } := by
      rw [holdTarget_sticky, hrecords, hr]; rfl
    refine ⟨_, hhold, ?answer, ?frame, ?_, fun j hj => ?_, fun n => ?_, fun x => ?_⟩
    case answer => rw [holdTarget_frame]; exact answeredAs_complete rfl rfl
    case frame => rw [holdTarget_frame, hqueue, hsticky]; rfl
    · simp [Target.holding]
    · simp [hj]
    · rw [advance_entry, completeOk_entry, holdTarget_entry]; rfl
    · simp only [advance_seg, completeOk_seg, holdTarget_seg, takeCode_target, takeCode_seg, takeCode_entry]
      split <;> rfl
  case release =>
    rw [if_neg hh] at hrelease
    subst hr
    refine ⟨_, hrelease, ?answer, ?frame, ?_, fun j hj => ?_⟩
    case answer => rw [releaseTarget_frame]; exact answeredAs_complete rfl rfl
    case frame => rw [releaseTarget_frame]; rfl
    · simp [Target.released]
    · simp [hj]

/-! ### Time (R21, R22, R79) -/

section
variable (s : State)

/-- The next unit counts the quarantines down (R22, R79). -/
def State.countsDown : Bool := s.tickNext && (s.collector != .stopped)

@[simp] theorem passUnit_target (k : TargetNo) :
    (passUnit s).target k = if s.countsDown = true then (s.target k).countDown else s.target k := by
  unfold passUnit
  change State.target (if s.countsDown = true then _ else _) k = _
  cases s.countsDown
  · rfl
  · simp only [if_true, State.target_mapTargets]; rfl

theorem passUnit_frame' : passUnit s = { s with elapsed := s.elapsed + 1, targets := (passUnit s).targets } := by
  have helapsed : (passUnit s).elapsed = s.elapsed + 1 := by unfold passUnit; dsimp only; split <;> simp
  rw [← helapsed]
  exact passUnit_frame s

theorem passUnit_stamp : (passUnit s).stamp = s.stamp + 1 := by
  rw [passUnit_frame']
  exact BitVec.ofNat_add _ 1

theorem State.tickNext_iff : s.tickNext = true ↔ (s.elapsed + 1) % 100 = 0 := beq_iff_eq

/-- Settles O39. -/
theorem timeAdvancesAndQuarantinesExpire : Obligations.TimeAdvancesAndQuarantinesExpire := by
  refine ⟨fun s => ⟨BitVec.toNat_ofNat _ _, BitVec.toNat_ofNat _ _⟩, fun s hr => ⟨fun hnot => ?noTick, fun htick => ?tick, ?expiry⟩⟩
  case noTick =>
    have hnext : s.tickNext = false := by rw [← Bool.not_eq_true, State.tickNext_iff]; exact hnot
    refine ⟨?_, passUnit s, running_of_not_inReset hr, ?_, passUnit_stamp s, ?_⟩
    · change execTick s = _
      rw [execTick, running_of_not_inReset hr, hnext]
      rfl
    · simp only [passUnit, hnext, Bool.false_and, Bool.false_eq_true, if_false]
    · rw [passUnit_frame']
      exact congrArg (BitVec.ofNat 32) (by change (s.elapsed + 1) / 100 = s.elapsed / 100; omega)
  case tick =>
    have hnext : s.tickNext = true := s.tickNext_iff.2 htick
    intro c hc
    have hrun : exec c s = .next (passUnit s) := by
      simp only [List.mem_cons, List.not_mem_nil, or_false] at hc
      rcases hc with rfl | rfl
      · change execTick s = _
        rw [execTick, running_of_not_inReset hr, hnext]
        rfl
      · exact running_of_not_inReset hr
    refine ⟨_, hrun, passUnit_frame' s, passUnit_stamp s, ?_, fun k => ?_⟩
    · rw [passUnit_frame']
      change BitVec.ofNat 32 ((s.elapsed + 1) / 100) = BitVec.ofNat 32 (s.elapsed / 100) + 1
      rw [show (s.elapsed + 1) / 100 = s.elapsed / 100 + 1 by omega]
      exact BitVec.ofNat_add _ 1
    · rw [passUnit_target, State.countsDown, hnext, Target.countDown]
      by_cases hc : s.collector = .stopped <;> simp [hc]
  case expiry =>
    intro k hq hz
    have hrun : exec (.backoffExpiry k) s = .next (s.setTarget k { s.target k with health := .probing }) := by
      change execBackoffExpiry k s = _
      rw [execBackoffExpiry, running_of_not_inReset hr, hq, hz]
      rfl
    refine ⟨_, hrun, rfl, by simp, fun j hj => by simp [hj]⟩

end

/-! ### Attention edges (R39, R40) -/

section
variable (s : State) (x : Segment)

/-- An attention event follows a falling edge (R39). -/
def State.edgeAttends : Bool :=
  !s.inReset && ((s.seg x).attnHigh && (s.seg x).attnArmed) && (s.collector == .running) && (s.seg x).attnEnable

/-- The detector is spent (R39). -/
def State.spent : State := s.modSeg x fun g => { g with attnHigh := false, attnArmed := false }

theorem exec_attnFallingEdge_eq : exec (.attnFallingEdge x) s =
    .next (if s.edgeAttends x = true then attentionEvent x (s.spent x) else s.spent x) := rfl

theorem State.attends_spent (n : EntryNo) : (s.spent x).attends x n = s.attends x n :=
  State.attends_modSeg s n x x fun _ => rfl

theorem State.edgeAttends_iff : s.edgeAttends x = true ↔ s.inReset = false ∧ (s.seg x).attnHigh = true
    ∧ (s.seg x).attnArmed = true ∧ s.collector = .running ∧ (s.seg x).attnEnable = true := by
  simp [State.edgeAttends, and_assoc]

theorem State.attends_iff_answersAttention (n : EntryNo) :
    s.attends x n = true ↔ (s.engine x).state ≠ .faulted ∧ s.answersAttention x n := by
  rw [State.attends_iff, State.answersAttention]
  simp [Target.available, and_assoc]

/-- Settles O42. -/
theorem attentionEdges : Obligations.AttentionEdges := by
  refine fun s x => ⟨⟨_, exec_attnFallingEdge_eq s x, ?frame, fun y => ?seg, ?entry⟩, ⟨_, rfl, ?_, fun y => ?_⟩⟩
  case frame =>
    split
    · rw [attentionEvent_frame]; apply State.ext <;> simp [State.spent]
    · apply State.ext <;> simp [State.spent]
  case seg =>
    have hseg : (s.spent x).seg y = { s.seg y with attnHigh := if y = x then false else (s.seg y).attnHigh
                                                   attnArmed := if y = x then false else (s.seg y).attnArmed } := by
      rw [State.spent, State.seg_modSeg]; split <;> rfl
    split
    · rw [attentionEvent_seg, hseg]
    · rw [hseg]
  case entry =>
    rintro _ rfl n
    have hspent : (s.spent x).entry n = s.entry n := by simp [State.spent]
    by_cases hedge : s.edgeAttends x = true
    · rw [if_pos hedge, attentionEvent_entry, State.attends_spent, hspent]
      obtain ⟨hr, hhigh, harmed, hc, henable⟩ := (s.edgeAttends_iff x).1 hedge
      constructor
      · rintro ⟨⟨-, -, -, -, -, hf⟩, ha⟩
        rw [if_pos ((s.attends_iff_answersAttention x n).2 ⟨hf, ha⟩)]
      · intro h
        refine if_neg fun hattends => h ?_
        obtain ⟨hf, ha⟩ := (s.attends_iff_answersAttention x n).1 hattends
        exact ⟨⟨hr, hhigh, harmed, hc, henable, hf⟩, ha⟩
    · rw [if_neg hedge, hspent]
      constructor
      · rintro ⟨⟨hr, hhigh, harmed, hc, henable, -⟩, -⟩
        exact absurd ((s.edgeAttends_iff x).2 ⟨hr, hhigh, harmed, hc, henable⟩) hedge
      · exact fun _ => rfl
  · apply State.ext <;> simp
  · rw [State.seg_modSeg]; split <;> rfl

end

end Sys2Proof.Machine
end

section
/-! PROOFS. The arbiters: what a selection occasion hands over (R42 to R46), and what is chosen (R43). -/

namespace Sys2Proof.Machine

/-! ### The hand-over (R44 to R46) -/

section
variable (s : State) (x y : Segment) (n m : EntryNo) (c : Cause)

theorem Seg.takeWork_eq (now : Nat) (w : Work) (g : Seg) : g.takeWork now w =
    { g with engine := { g.engine with state := .busy, work := some w, retries := 0, received := [], waitSince := now
                                       stage := if g.busIsFree then .onWire else .freeCheck } } := rfl

theorem Seg.busIsFree_iff (g : Seg) : g.busIsFree = true ↔
    g.linesHigh = true ∧ ¬ (g.engine.latched.multiMaster = true ∧ g.engine.busBusy = true) := by
  simp [Seg.busIsFree, imp_iff_not_or]

@[simp] theorem takePoll_entry : (takePoll x n c s).entry m =
    if m = n then { s.entry n with due := none, inFlight := true } else s.entry m := by
  simp only [takePoll, State.entry_modSeg, State.entry_setEntry, unlist_entry, if_true]
  split
  · rfl
  · rfl

@[simp] theorem takePoll_target (k : TargetNo) : (takePoll x n c s).target k = s.target k := State.target_congr (by simp) k

/-- A segment out of whose One-Shot List entry n is taken. -/
def Seg.without (n : EntryNo) (g : Seg) : Seg := { g with oneShot := g.oneShot.filter (· != n) }

theorem takePoll_seg (hn : s.entrySegment n = x) : (takePoll x n c s).seg y =
    if y = x then ((s.seg x).without n).takeWork s.elapsed (.poll (s.pollWork n c)) else s.seg y := by
  simp only [takePoll, State.seg_modSeg, State.seg_setEntry, unlist_seg, hn]
  split
  · next h => rw [h]; rfl
  · rfl

/-- The engine's configuration as a raw transfer finds it: latched afresh in STOPPED (R48). -/
def State.latchRaw (g : Seg) : Seg :=
  if s.collector = .stopped then ({ g with rawPending := false } : Seg).latch else { g with rawPending := false }

variable {s x} in
theorem takeRaw_eq {st : RawStage} {r : RawParams} (hwait : s.cu.wait = some (.raw st r)) : takeRaw x s =
    State.modSeg x (fun g => (s.latchRaw g).takeWork s.elapsed (.raw r))
      { s with cu := { s.cu with wait := some (.raw .onSegment r) } } := by
  simp only [takeRaw, hwait]
  rfl

variable {s x} in
theorem takeRaw_seg {st : RawStage} {r : RawParams} (hwait : s.cu.wait = some (.raw st r)) : (takeRaw x s).seg y =
    if y = x then (s.latchRaw (s.seg x)).takeWork s.elapsed (.raw r) else s.seg y := by
  have hseg (u : CommandUnit) (z : Segment) : State.seg { s with cu := u } z = s.seg z := by cases z <;> rfl
  rw [takeRaw_eq hwait, State.seg_modSeg]
  split
  · next h => rw [h, hseg]
  · rw [hseg]

/-! ### Selection (R42, R43) -/

/-- What the arbiter's choice makes of the state (R44, R45). -/
def State.handOver (x : Segment) (s : State) : Option Choice → State
  | none => s
  | some .raw => takeRaw x s
  | some (.poll n cause) => takePoll x n cause s

variable {s x} in
theorem exec_selectionOccasion_eq (hr : s.inReset = false) (hfree : s.free x = true) (hjoins : s.joinsMade = true) :
    exec (.selectionOccasion x) s = .next (s.handOver x (s.choose x)) := by
  change execSelectionOccasion x s = _
  rw [execSelectionOccasion, running_of_not_inReset hr, hfree, hjoins, Bool.and_self, whenever_true]
  cases s.choose x with
  | none => rfl
  | some choice => cases choice <;> rfl

theorem State.choose_of_rawPending (h : (s.seg x).rawPending = true) : s.choose x = some .raw := if_pos h

/-- Settles O43. -/
theorem selectionHandsWorkToTheEngine : Obligations.SelectionHandsWorkToTheEngine := by
  intro s x hr hfree hjoins
  have hrun := exec_selectionOccasion_eq hr hfree hjoins
  refine ⟨fun hnone => ?nothing, fun st r hpending hwait lat hlat busy hbusy => ?raw, fun n c hchoose hn g hg => ?poll⟩
  case nothing => rw [hrun, hnone]; rfl
  case raw =>
    rw [s.choose_of_rawPending x hpending] at hrun
    change _ = Host.Outcome.next (takeRaw x s) at hrun
    refine ⟨_, hrun, ?_, fun y hy => ?_, ?_⟩
    · rw [takeRaw_eq hwait]; apply State.ext <;> simp
    · rw [takeRaw_seg y hwait, if_neg hy]
    · rw [takeRaw_seg x hwait, if_pos rfl, Seg.takeWork_eq, if_congr (Seg.busIsFree_iff _) rfl rfl]
      subst hlat hbusy
      by_cases hc : s.collector = .stopped <;>
        simp [State.latchRaw, hc, Seg.latch, Seg.withEngine, State.engine, latchLimit, Seg.linesHigh]
  case poll =>
    subst hg
    rw [hchoose] at hrun
    refine ⟨_, hrun, takePoll_frame x n c s, ?_, fun m hm => ?_, fun y hy => ?_, ?_⟩
    all_goals dsimp only [State.handOver]
    · rw [takePoll_entry, if_pos rfl]
    · rw [takePoll_entry, if_neg hm]
    · rw [takePoll_seg s x y n c hn, if_neg hy]
    · rw [takePoll_seg s x x n c hn, if_pos rfl, Seg.takeWork_eq, if_congr (Seg.busIsFree_iff _) rfl rfl]
      rfl

end

end Sys2Proof.Machine
end

section
/-! PROOFS. The arbiter's order (R43). -/

namespace Sys2Proof.Machine

/-! ### Attention class -/

section
variable (s : State) (x : Segment) (n m : EntryNo)

/-- Entry n waits on segment x in the attention class. -/
def State.waitsAttention (n : EntryNo) : Bool := decide (s.entrySegment n = x ∧ (s.entry n).due = some .attention)

theorem firstAttention_dueList : firstAttention (s.dueList x) = allEntries.find? (s.waitsAttention x) := by
  unfold State.dueList
  induction allEntries with
  | nil => rfl
  | cons n rest ih =>
    by_cases hn : s.entrySegment n = x
    · cases hdue : (s.entry n).due with
      | none => simpa [hn, hdue, State.waitsAttention] using ih
      | some c =>
        cases c with
        | attention => simp [hn, hdue, State.waitsAttention, firstAttention]
        | scheduled j => simpa [hn, hdue, State.waitsAttention, firstAttention] using ih
    · simpa [hn, State.waitsAttention] using ih

theorem find?_allEntries_eq_some_iff (p : EntryNo → Bool) :
    allEntries.find? p = some n ↔ p n = true ∧ ∀ m, p m = true → n ≤ m := by
  rw [allEntries, ← Fin.find?_eq_find?_finRange, Fin.find?_eq_some_iff]
  exact and_congr_right fun _ => ⟨fun h m hm => not_lt.1 fun hlt => by simp [h m hlt] at hm,
    fun h m hlt => Bool.eq_false_iff.2 fun hm => absurd (h m hm) (not_le.2 hlt)⟩

/-! ### Scheduled class -/

/-- How long a join due tick lies back. -/
def State.age (j : Long) : Nat := (s.tickCount - j).toNat

/-- Scheduled member p goes before q: lower tier number, then longer waiting, then lower entry number (R43 rank 4). -/
def State.goesBefore (p q : EntryNo × Long) : Prop :=
  (s.entry p.1).d.tier < (s.entry q.1).d.tier
    ∨ ((s.entry p.1).d.tier = (s.entry q.1).d.tier ∧ (s.age q.2 < s.age p.2 ∨ (s.age q.2 = s.age p.2 ∧ p.1 < q.1)))

theorem State.goesBefore_trans {p q r : EntryNo × Long} (hpq : s.goesBefore p q) (hqr : s.goesBefore q r) :
    s.goesBefore p r := by
  unfold State.goesBefore at *
  grind

theorem State.goesBefore_asymm {p q : EntryNo × Long} (hpq : s.goesBefore p q) : ¬ s.goesBefore q p := by
  unfold State.goesBefore at *
  grind

/-- Of reached join due ticks the earlier one is the one that lies further back (R23). -/
theorem State.earlier_iff_age {i j : Long} (hi : reached i s.tickCount = true) (hj : reached j s.tickCount = true) :
    earlier i j = true ↔ s.age j < s.age i := by
  rw [reached_iff] at hi hj
  rw [earlier_iff]
  simp only [State.age, BitVec.toNat_sub]
  omega

theorem State.ranksAhead_iff_goesBefore {p b : EntryNo × Long} (hlt : b.1 < p.1)
    (hp : reached p.2 s.tickCount = true) (hb : reached b.2 s.tickCount = true) :
    ranksAhead ((s.entry p.1).d.tier, p.2) ((s.entry b.1).d.tier, b.2) = true ↔ s.goesBefore p b := by
  simp only [ranksAhead, Bool.or_eq_true, Bool.and_eq_true, decide_eq_true_eq, beq_iff_eq, s.earlier_iff_age hp hb,
    State.goesBefore, not_lt_of_gt hlt, and_false, or_false]

theorem State.goesBefore_of_not_ranksAhead {p b : EntryNo × Long} (hlt : b.1 < p.1) (h : ¬ s.goesBefore p b) :
    s.goesBefore b p := by
  unfold State.goesBefore at *
  grind

/-- The best of scheduled members in rising order whose join due ticks are reached goes before all the others. -/
theorem State.bestScheduled_goesBefore (l : List (EntryNo × DueClass)) (hl : l.Pairwise fun p q => p.1 < q.1)
    (hall : ∀ p ∈ l, ∃ j, p.2 = .scheduled j ∧ reached j s.tickCount = true) (hne : l ≠ []) :
    ∃ b, s.bestScheduled l = some b ∧ (b.1, .scheduled b.2) ∈ l
      ∧ ∀ m i, (m, .scheduled i) ∈ l → (m, i) ≠ b → s.goesBefore b (m, i) := by
  induction l using List.reverseRecOn with
  | nil => exact absurd rfl hne
  | append_singleton l p ih =>
    obtain ⟨m, c⟩ := p
    obtain ⟨j, rfl, hj⟩ : ∃ j, c = .scheduled j ∧ reached j s.tickCount = true := hall (m, c) (by simp)
    obtain ⟨hl, -, hlast⟩ := List.pairwise_append.1 hl
    by_cases hnil : l = []
    · subst hnil
      exact ⟨(m, j), rfl, by simp, fun k i hk hne => by simp_all⟩
    · obtain ⟨b, hb, hmem, hbest⟩ := ih hl (fun p hp => hall p (by simp [hp])) hnil
      have hstep : s.bestScheduled (l ++ [(m, .scheduled j)]) =
          if ranksAhead ((s.entry m).d.tier, j) ((s.entry b.1).d.tier, b.2) then some (m, j) else some b := by
        rw [State.bestScheduled, List.foldl_append]
        change List.foldl _ (s.bestScheduled l) _ = _
        rw [hb]
        rfl
      have hlt : b.1 < m := hlast _ hmem (m, .scheduled j) (by simp)
      obtain ⟨jb, hjb, hreached⟩ := hall _ (List.mem_append_left _ hmem)
      cases hjb
      have hranks := s.ranksAhead_iff_goesBefore (p := (m, j)) hlt hj hreached
      rw [hstep]
      by_cases hahead : s.goesBefore (m, j) b
      · rw [if_pos (hranks.2 hahead)]
        refine ⟨(m, j), rfl, by simp, fun k i hk hne => ?_⟩
        have hk : (k, DueClass.scheduled i) ∈ l := 
          (List.mem_append.1 hk).resolve_right fun h => hne (by simpa using h)
        by_cases hkb : (k, i) = b
        · exact hkb ▸ hahead
        · exact s.goesBefore_trans hahead (hbest k i hk hkb)
      · rw [if_neg (mt hranks.1 hahead)]
        refine ⟨b, rfl, by simp [hmem], fun k i hk hne => ?_⟩
        rcases List.mem_append.1 hk with hk | hk
        · exact hbest k i hk hne
        · simp only [List.mem_singleton, Prod.mk.injEq, DueClass.scheduled.injEq] at hk
          obtain ⟨rfl, rfl⟩ := hk
          exact s.goesBefore_of_not_ranksAhead hlt hahead

/-! ### The choice -/

theorem State.mem_dueList (c : DueClass) : (n, c) ∈ s.dueList x ↔ s.entrySegment n = x ∧ (s.entry n).due = some c := by
  unfold State.dueList
  simp only [List.mem_filterMap, allEntries, List.mem_finRange, true_and]
  constructor
  · rintro ⟨k, hk⟩
    split at hk
    · next hx =>
      obtain ⟨d, hd, heq⟩ := Option.map_eq_some_iff.1 hk
      cases heq
      exact ⟨hx, hd⟩
    · cases hk
  · rintro ⟨hx, hd⟩
    exact ⟨n, by rw [if_pos hx, hd]; rfl⟩

theorem State.dueList_pairwise : (s.dueList x).Pairwise fun p q => p.1 < q.1 := by
  refine List.Pairwise.filterMap _ (fun n m hlt p hp q hq => ?_) (List.sortedLT_finRange 32).pairwise
  have hfst {k : EntryNo} {r : EntryNo × DueClass}
      (hr : (if s.entrySegment k = x then (s.entry k).due.map fun c => (k, c) else none) = some r) : r.1 = k := by
    split at hr
    · obtain ⟨d, -, rfl⟩ := Option.map_eq_some_iff.1 hr; rfl
    · cases hr
  rw [hfst hp, hfst hq]
  exact hlt

variable {s x}

theorem State.choose_of_stopped (hraw : (s.seg x).rawPending = false) (hc : s.collector = .stopped) : s.choose x = none := by
  rw [State.choose, if_neg (by simp [hraw]), if_pos hc]

theorem State.choose_of_oneShot {rest : List EntryNo} (hraw : (s.seg x).rawPending = false) (hc : s.collector ≠ .stopped)
    (hlist : (s.seg x).oneShot = n :: rest) : s.choose x = some (.poll n .oneShot) := by
  rw [State.choose, if_neg (by simp [hraw]), if_neg hc, hlist]

theorem State.choose_of_noRequest (hraw : (s.seg x).rawPending = false) (hc : s.collector ≠ .stopped)
    (hlist : (s.seg x).oneShot = []) : s.choose x =

      ((allEntries.find? (s.waitsAttention x)).map fun n => .poll n .attention).or
        ((s.bestScheduled (s.dueList x)).map fun b => .poll b.1 .scheduled) := by
  rw [← firstAttention_dueList, State.choose, if_neg (by simp [hraw]), if_neg hc, hlist]
  cases firstAttention (s.dueList x) <;> rfl

theorem State.choose_attention_iff (hraw : (s.seg x).rawPending = false) (hc : s.collector ≠ .stopped)
    (hlist : (s.seg x).oneShot = []) : s.choose x = some (.poll n .attention) ↔
      s.waitsAttention x n = true ∧ ∀ m, s.waitsAttention x m = true → n ≤ m := by
  rw [← find?_allEntries_eq_some_iff, State.choose_of_noRequest hraw hc hlist]
  cases allEntries.find? (s.waitsAttention x) <;> simp

theorem State.choose_of_noAttention (hraw : (s.seg x).rawPending = false) (hc : s.collector ≠ .stopped)
    (hlist : (s.seg x).oneShot = []) (hnone : ∀ n, s.waitsAttention x n = false) :
    s.choose x = (s.bestScheduled (s.dueList x)).map fun b => .poll b.1 .scheduled := by
  rw [State.choose_of_noRequest hraw hc hlist, List.find?_eq_none.2 fun n _ => by simp [hnone n]]
  rfl

/-- Settles O44. -/
theorem arbiterChoosesByRank : Obligations.ArbiterChoosesByRank := by
  intro s x
  refine ⟨s.choose_of_rawPending x, State.choose_of_stopped, fun hraw hc => ⟨fun n rest => State.choose_of_oneShot n hraw hc,
    fun hlist attn hattn => ?_⟩⟩
  have hwaits (n : EntryNo) : s.waitsAttention x n = true ↔ attn n := by rw [hattn]; exact decide_eq_true_iff
  refine ⟨fun n => ?attention, fun hnone => ⟨fun hempty => ?empty, fun hreached n j hn hdue => ?scheduled⟩⟩
  case attention => simp only [State.choose_attention_iff n hraw hc hlist, hwaits]
  all_goals
    have hchoose := State.choose_of_noAttention hraw hc hlist fun n => Bool.eq_false_iff.2 fun h => hnone n ((hwaits n).1 h)
  case empty =>
    have hdueList : s.dueList x = [] := List.eq_nil_iff_forall_not_mem.2 fun p hp => by
      obtain ⟨hx, hd⟩ := (s.mem_dueList x p.1 p.2).1 hp
      simp [hempty _ hx] at hd
    rw [hchoose, hdueList]
    rfl
  case scheduled =>
    have hmem := (s.mem_dueList x n (.scheduled j)).2 ⟨hn, hdue⟩
    have hscheduled : ∀ p ∈ s.dueList x, ∃ i, p.2 = .scheduled i ∧ reached i s.tickCount = true := by
      rintro ⟨m, c⟩ hp
      obtain ⟨hx, hd⟩ := (s.mem_dueList x m c).1 hp
      cases c with
      | attention => exact absurd ⟨hx, hd⟩ (hattn ▸ hnone m)
      | scheduled i => exact ⟨i, rfl, hreached m i hx hd⟩
    obtain ⟨b, hb, hbmem, hbest⟩ :=
      s.bestScheduled_goesBefore _ (s.dueList_pairwise x) hscheduled (List.ne_nil_of_mem hmem)
    rw [hchoose, hb]
    simp only [Option.map_some, Option.some.injEq, Choice.poll.injEq, and_true]
    constructor
    · rintro rfl m i hm hx hd
      have hj : b.2 = j := by
        have := ((s.mem_dueList x _ _).1 hbmem).2.symm.trans hdue
        cases this
        rfl
      have := hbest m i ((s.mem_dueList x m _).2 ⟨hx, hd⟩) fun h => hm (congrArg Prod.fst h)
      rwa [State.goesBefore, hj] at this
    · intro hall
      by_contra hne
      obtain ⟨hbx, hbd⟩ := (s.mem_dueList x _ _).1 hbmem
      exact s.goesBefore_asymm (hbest n j hmem fun h => hne (congrArg Prod.fst h).symm) (hall b.1 b.2 hne hbx hbd)

end

end Sys2Proof.Machine
end

section
/-! PROOFS. What an engine sees of its lines and of other masters (R50, R51, R61). -/

namespace Sys2Proof.Machine

section
variable {s : State} {x y : Segment} {f : Seg → Seg}

/-- An event that rewrites one segment alone. -/
theorem State.modSeg_event (s : State) (x : Segment) (f : Seg → Seg) :
    s.modSeg x f = { s with segA := (s.modSeg x f).segA, segB := (s.modSeg x f).segB }
      ∧ (∀ y, y ≠ x → (s.modSeg x f).seg y = s.seg y) ∧ (s.modSeg x f).seg x = f (s.seg x) := by
  refine ⟨by apply State.ext <;> simp, fun y hy => ?_, ?_⟩
  · rw [State.seg_modSeg, if_neg hy]
  · rw [State.seg_modSeg, if_pos rfl]

theorem State.modSeg_eq_self (h : f (s.seg x) = s.seg x) : s.modSeg x f = s := by
  cases x <;> exact congrArg (State.setSeg _ · s) h

/-! ### Lines (R50) -/

theorem Seg.fall_eq (l : LineName) (now : Nat) (g : Seg)
    (h : (if l = .scl then g.scl else g.sda).high = true) : g.fall l now =
      { g with scl := if l = .scl then { high := false, fell := now } else g.scl
               sda := if l = .sda then { high := false, fell := now } else g.sda } := by
  cases l
  · simp only [if_true] at h; simp [Seg.fall, LineLevel.low, h]
  · simp only [reduceCtorEq, if_false] at h; simp [Seg.fall, LineLevel.low, h]

theorem Seg.fall_of_low (l : LineName) (now : Nat) (g : Seg)
    (h : (if l = .scl then g.scl else g.sda).high = false) : g.fall l now = g := by
  cases l
  · simp only [if_true] at h; simp [Seg.fall, LineLevel.low, h]
  · simp only [reduceCtorEq, if_false] at h; simp [Seg.fall, LineLevel.low, h]

theorem Seg.rise_eq (l : Lines) (g : Seg) : g.rise l =
    { g with scl := { g.scl with high := g.scl.high || decide (l ≠ .sda) }
             sda := { g.sda with high := g.sda.high || decide (l ≠ .scl) } } := by
  cases l <;> simp [Seg.rise, LineLevel.rise]

/-- A look at the lines goes on with a free check or a bus check that finds them high, and with nothing else (R50, R52). -/
theorem Seg.recheck_eq (g : Seg) : g.recheck =
    { g with engine := { g.engine with
        state := if g.engine.stage = .busCheck ∧ g.linesHigh = true then .idle else g.engine.state
        stage :=
          if g.engine.stage = .freeCheck ∧ g.linesHigh = true
              ∧ ¬ (g.engine.latched.multiMaster = true ∧ g.engine.busBusy = true) then .onWire
          else if g.engine.stage = .busCheck ∧ g.linesHigh = true then .none
          else g.engine.stage } } := by
  unfold Seg.recheck
  cases hstage : g.engine.stage with
  | freeCheck => simp [Seg.freeCheck, Seg.withEngine, Seg.busIsFree, imp_iff_not_or]
  | busCheck => by_cases h : g.linesHigh <;> simp [Seg.busCheck, Seg.withEngine, h]
  | _ =>
    simp only [reduceCtorEq, false_and, if_false]
    rw [← hstage]

/-- A bus whose lines come to read high, with the looks it lets go on (R50, R52). -/
theorem Seg.rise_recheck_eq (l : Lines) (g : Seg) (up : Bool)
    (hup : up = decide ((g.scl.high = true ∨ l ≠ .sda) ∧ (g.sda.high = true ∨ l ≠ .scl))) : (g.rise l).recheck =
    { g with
      scl := { g.scl with high := g.scl.high || decide (l ≠ .sda) }
      sda := { g.sda with high := g.sda.high || decide (l ≠ .scl) }
      engine := { g.engine with
        state := if g.engine.stage = .busCheck ∧ up = true then .idle else g.engine.state
        stage :=
          if g.engine.stage = .freeCheck ∧ up = true
              ∧ ¬ (g.engine.latched.multiMaster = true ∧ g.engine.busBusy = true) then .onWire
          else if g.engine.stage = .busCheck ∧ up = true then .none
          else g.engine.stage } } := by
  have hlines : (g.rise l).linesHigh = up := by
    rw [hup, Seg.rise_eq, Seg.linesHigh, Bool.eq_iff_iff, decide_eq_true_iff]
    simp
  rw [Seg.recheck_eq, hlines, Seg.rise_eq]

/-! ### Other masters (R51, R61) -/

/-- A STOP is seen (R51, R54, R61). -/
def Seg.seesStop (now : Nat) (g : Seg) : Seg :=
  let g1 := g.withEngine fun e => { e with busBusy := false }
  match g.engine.stage with
  | .freeCheck => g1.freeCheck
  | .arbWait => g1.beginFreeCheck now
  | .onWire => if g.engine.hasGap then g.ownStop.withEngine fun e => { e with stage := .stopGap } else g1
  | .none | .stopGap | .busCheck => g1

theorem exec_busStopSeen_eq (hr : s.inReset = false) (hf : (s.engine x).state ≠ .faulted) :
    exec (.busStopSeen x) s = .next (s.modSeg x (Seg.seesStop s.elapsed)) := by
  change execBusStopSeen x s = _
  rw [execBusStopSeen, running_of_not_inReset hr, bne_iff_ne.2 hf, whenever_true]
  rfl

theorem Seg.seesStop_eq (now : Nat) (g : Seg) (own : Bool)
    (hown : own = (decide (g.engine.stage = .onWire) && g.engine.hasGap)) : g.seesStop now =
    { g with
      scl := { g.scl with high := g.scl.high || own }
      sda := { g.sda with high := g.sda.high || own }
      engine := { g.engine with
        busBusy := false
        waitSince := if g.engine.stage = .arbWait then now else g.engine.waitSince
        stage := if g.engine.stage = .freeCheck ∨ g.engine.stage = .arbWait then
                   (if g.linesHigh then .onWire else .freeCheck)
                 else if own = true then .stopGap
                 else g.engine.stage } } := by
  unfold Seg.seesStop
  subst hown
  cases hstage : g.engine.stage with
  | freeCheck => simp [Seg.freeCheck, Seg.withEngine, Seg.busIsFree, Seg.linesHigh]
  | arbWait => simp [Seg.beginFreeCheck, Seg.freeCheck, Seg.withEngine, Seg.busIsFree, Seg.linesHigh]
  | onWire =>
    cases hgap : g.engine.hasGap <;> simp [Seg.ownStop, Seg.rise, LineLevel.rise, Seg.withEngine, hstage]
  | _ => simp [Seg.withEngine, hstage]

theorem Engine.hasGap_iff (e : Engine) : e.hasGap = true ↔
    ∃ w, e.work = some w ∧ w.xfer.stopBetween = true ∧ w.xfer.hasWrite = true ∧ w.xfer.hasRead = true := by
  unfold Engine.hasGap
  cases e.work <;> simp [Xfer.hasGap, and_assoc]

/-- The bus-free limit is over in a wait on other masters (R51, R61). -/
def Seg.waitIsOver (now : Nat) (g : Seg) : Seg :=
  let g1 := g.withEngine fun e => { e with busBusy := false }
  if g.engine.stage = .arbWait then g1.beginFreeCheck now else g1.freeCheck

theorem Seg.waitIsOver_eq (now : Nat) (g : Seg) : g.waitIsOver now =
    { g with engine := { g.engine with
        busBusy := false
        waitSince := if g.engine.stage = .arbWait then now else g.engine.waitSince
        stage := if g.linesHigh then .onWire else .freeCheck } } := by
  unfold Seg.waitIsOver
  by_cases h : g.engine.stage = .arbWait <;>
    simp [h, Seg.beginFreeCheck, Seg.freeCheck, Seg.withEngine, Seg.busIsFree, Seg.linesHigh]

theorem elapsedSince_iff (now ms : Nat) (moment : Int) :
    elapsedSince now moment ms = true ↔ moment + ((100 * ms : Nat) : Int) ≤ (now : Int) := by
  rw [elapsedSince, decide_eq_true_iff]
  change ((100 * ms : Nat) : Int) ≤ _ ↔ _
  omega

theorem Seg.busyWaitOver_iff (now : Nat) (g : Seg) : g.busyWaitOver now = true ↔
    (g.engine.stage = .arbWait ∨ (g.engine.stage = .freeCheck ∧ g.engine.latched.multiMaster = true
        ∧ g.engine.busBusy = true))
      ∧ g.engine.waitSince + 100 * g.engine.latched.busFree ≤ now := by
  rw [Seg.busyWaitOver, Bool.and_eq_true, elapsedSince_iff]
  refine and_congr ?_ (by norm_cast)
  simp [and_assoc, or_comm]

theorem exec_busBusyTimeout_eq (hr : s.inReset = false) (hover : (s.seg x).busyWaitOver s.elapsed = true) :
    exec (.busBusyTimeout x) s = .next (s.modSeg x (Seg.waitIsOver s.elapsed)) := by
  change execBusBusyTimeout x s = _
  rw [execBusBusyTimeout, running_of_not_inReset hr, hover, whenever_true]
  rfl

/-- A foreign START is seen (R51). -/
def Seg.seesStart (now : Nat) (g : Seg) : Seg :=
  g.withEngine fun e => { e with
    busBusy := true, waitSince := if e.stage = .freeCheck ∧ e.busBusy = false then now else e.waitSince }

theorem Seg.seesStart_eq (now : Nat) : (fun g : Seg => g.withEngine fun e => { e with
    busBusy := true, waitSince := if (e.stage = .freeCheck) ∧ !e.busBusy then now else e.waitSince }) = Seg.seesStart now := by
  funext g
  simp [Seg.seesStart]

/-- A foreign START that takes no arbitration from the engine. -/
theorem exec_foreignStartSeen_of_stays (hr : s.inReset = false) (hf : (s.engine x).state ≠ .faulted)
    (hstays : (s.engine x).stage ≠ .stopGap ∨ (s.engine x).latched.multiMaster = false ∨ (s.engine x).work = none) :
    exec (.foreignStartSeen x) s = .next (s.modSeg x (Seg.seesStart s.elapsed)) := by
  change execForeignStartSeen x s = _
  rw [execForeignStartSeen, running_of_not_inReset hr, bne_iff_ne.2 hf, whenever_true]
  simp only [Seg.seesStart_eq]
  split
  · next w hw =>
    refine congrArg _ (if_neg fun ⟨hgap, hmulti⟩ => ?_)
    rcases hstays with h | h | h
    · exact h hgap
    · exact absurd hmulti (by simp [h])
    · exact absurd (hw.symm.trans h) (by simp)
  · rfl

/-- A foreign START behind the engine's own intermediate STOP (R54, R61). -/
theorem exec_foreignStartSeen_of_gap {w : Work} (hr : s.inReset = false) (hf : (s.engine x).state ≠ .faulted)
    (hgap : (s.engine x).stage = .stopGap) (hmulti : (s.engine x).latched.multiMaster = true)
    (hwork : (s.engine x).work = some w) : exec (.foreignStartSeen x) s =
      .next (loseArbitration x w (s.modSeg x (Seg.seesStart s.elapsed))) := by
  change execForeignStartSeen x s = _
  rw [execForeignStartSeen, running_of_not_inReset hr, bne_iff_ne.2 hf, whenever_true]
  simp only [Seg.seesStart_eq, hwork, hgap, hmulti, and_self, if_true]

theorem exec_arbitrationLoss_eq {w : Work} (hr : s.inReset = false) (hw : s.workOnWire x = some w)
    (hm : (s.engine x).latched.multiMaster = true) : exec (.arbitrationLoss x) s = .next (loseArbitration x w s) := by
  change execArbitrationLoss x s = _
  rw [execArbitrationLoss, running_of_not_inReset hr, hw]
  simp only [hm, if_true]

/-- Settles O45. -/
theorem linesAndOtherMasters : Obligations.LinesAndOtherMasters := by
  refine ⟨fun s x => ⟨fun l v hv => ?fall, fun l up hup => ?free⟩, fun s x hr => ⟨fun hf => ?start, fun hf => ?stop,
    fun hwait hlimit => ?timeout, fun hf => ?faulted⟩⟩
  case fall =>
    subst hv
    have hrun : exec (.lineFall x l) s = .next (s.modSeg x (Seg.fall l s.elapsed)) := rfl
    refine ⟨fun hhigh => ?_, fun hlow => ?_⟩
    · obtain ⟨hframe, hother, hseg⟩ := s.modSeg_event x (Seg.fall l s.elapsed)
      exact ⟨_, hrun, hframe, hother, hseg.trans (Seg.fall_eq l _ _ hhigh)⟩
    · rw [hrun, State.modSeg_eq_self (Seg.fall_of_low l _ _ hlow)]
  case free =>
    obtain ⟨hframe, hother, hseg⟩ := s.modSeg_event x fun g => (g.rise l).recheck
    exact ⟨_, rfl, hframe, hother, hseg.trans (Seg.rise_recheck_eq l _ up hup)⟩
  case start =>
    refine ⟨s.modSeg x (Seg.seesStart s.elapsed), rfl, exec_foreignStartSeen_of_stays hr hf, fun hgap hmulti hwork => ?_⟩
    obtain ⟨w, hw⟩ := Option.ne_none_iff_exists'.1 hwork
    have hengine : (s.modSeg x (Seg.seesStart s.elapsed)).engine x = ((s.seg x).seesStart s.elapsed).engine := by
      rw [State.engine, State.seg_modSeg, if_pos rfl]
    refine ⟨_, exec_foreignStartSeen_of_gap hr hf hgap hmulti hw, exec_arbitrationLoss_eq ?_ ?_ ?_⟩
    · simpa using hr
    · rw [State.workOnWire, hengine, if_pos (.inr hgap)]
      exact hw
    · rw [hengine]
      exact hmulti
  case stop =>
    obtain ⟨hframe, hother, hseg⟩ := s.modSeg_event x (Seg.seesStop s.elapsed)
    refine ⟨_, exec_busStopSeen_eq hr hf, hframe, hother, fun gap hgap own hown => hseg.trans (Seg.seesStop_eq _ _ own ?_)⟩
    have hgap : gap = (s.engine x).hasGap := by rw [hgap, Bool.eq_iff_iff, decide_eq_true_iff, Engine.hasGap_iff]
    rw [hown, hgap]
    rfl
  case timeout =>
    have hover := (Seg.busyWaitOver_iff s.elapsed (s.seg x)).2 ⟨hwait, hlimit⟩
    obtain ⟨hframe, hother, hseg⟩ := s.modSeg_event x (Seg.waitIsOver s.elapsed)
    exact ⟨_, exec_busBusyTimeout_eq hr hover, hframe, hother, hseg.trans (Seg.waitIsOver_eq _ _)⟩
  case faulted =>
    have hnot : ((s.engine x).state != .faulted) = false := bne_eq_false_iff_eq.2 hf
    constructor
    · change execForeignStartSeen x s = _
      rw [execForeignStartSeen, running_of_not_inReset hr, hnot]
      rfl
    · change execBusStopSeen x s = _
      rw [execBusStopSeen, running_of_not_inReset hr, hnot]
      rfl

end

end Sys2Proof.Machine
end

section
/-! PROOFS. Bus clears that start and succeed (R50, R52, R63, R64). -/

namespace Sys2Proof.Machine

/-! ### How a bus clear runs (R63) -/

section
variable (r : ClearRun) (limit pulses : Nat)

theorem le_length_takeWhile_not_iff (l : List Bool) (k : Nat) :
    k ≤ (l.takeWhile (!·)).length ↔ ∀ i, i < k → l.getD i true = false := by
  induction l generalizing k with
  | nil => cases k with
    | zero => simp
    | succ k => simpa using ⟨0, Nat.zero_le k⟩
  | cons b l ih =>
    cases k with
    | zero => simp
    | succ k =>
      cases b with
      | true => simpa using ⟨0, Nat.zero_le k, rfl⟩
      | false =>
        rw [List.takeWhile_cons_of_pos rfl, List.length_cons, Nat.succ_le_succ_iff, ih, Nat.forall_lt_succ_left']
        exact ⟨fun h => ⟨rfl, h⟩, And.right⟩

/-- There are as many pulses as SDA is found low in a row, nine at most. -/
theorem pulsesGiven_eq (h9 : pulses ≤ 9) (hlow : ∀ i, i < pulses → r.sda.getD i true = false)
    (hhigh : pulses < 9 → r.sda.getD pulses true = true) : pulsesGiven r = pulses := by
  have hle := (le_length_takeWhile_not_iff r.sda pulses).2 hlow
  have hnot (h : pulses < 9) : ¬ pulses + 1 ≤ (r.sda.takeWhile (!·)).length := fun hlt => by
    have := (le_length_takeWhile_not_iff r.sda (pulses + 1)).1 hlt pulses (Nat.lt_succ_self _)
    exact absurd (this.symm.trans (hhigh h)) Bool.false_ne_true
  change min 9 _ = _
  omega

theorem heldWait_eq_none_iff : heldWait r limit = none ↔ ∀ i, i ≤ pulsesGiven r → r.sclWaits.getD i 0 < limit := by
  simp [heldWait]

/-- The first wait to reach the limit is the one that fails the clear. -/
theorem heldWait_eq_some {i : Nat} (hi : i ≤ pulsesGiven r) (hreach : limit ≤ r.sclWaits.getD i 0)
    (hfirst : ∀ j, j < i → r.sclWaits.getD j 0 < limit) : heldWait r limit = some (r.sclWaits.getD i 0) := by
  rw [heldWait, List.find?_map]
  have hfind : (List.range (pulsesGiven r + 1)).find? ((fun k => decide (limit ≤ k)) ∘ fun i => r.sclWaits.getD i 0) = some i :=
    List.find?_range_eq_some.2 ⟨decide_eq_true hreach, List.mem_range.2 (Nat.lt_succ_of_le hi), fun j hj => by
      simpa using hfirst j hj⟩
  rw [hfind]
  rfl

theorem State.clearReachesStop_iff (s : State) : s.clearReachesStop r = true ↔
    ∀ i, i ≤ pulsesGiven r → r.sclWaits.getD i 0 < 100 * (s.engine r.segment).latched.stretch := by
  rw [← heldWait_eq_none_iff, ← Option.isNone_iff_eq_none]
  rfl

end

/-! ### A bus clear starts, and one succeeds -/

section
variable {s : State} {x : Segment}

theorem LineLevel.lowFor_iff (l : LineLevel) (now ms : Nat) :
    l.lowFor now ms = true ↔ l.high = false ∧ l.fell + ((100 * ms : Nat) : Int) ≤ (now : Int) := by
  rw [LineLevel.lowFor, Bool.and_eq_true, elapsedSince_iff, Bool.not_eq_true']

theorem exec_busClear_eq (hr : s.inReset = false) (hstage : (s.engine x).stage = .freeCheck ∨ (s.engine x).stage = .busCheck)
    (hstuck : (s.seg x).lineStuck s.elapsed = true) : exec (.busClear x) s = .next (s.modSeg x fun g =>
      g.withEngine fun e => { e with state := .clearing, stage := .none, waitSince := s.elapsed }) := by
  change execBusClear x s = _
  have hcond : (((s.engine x).stage == .freeCheck || (s.engine x).stage == .busCheck) && (s.seg x).lineStuck s.elapsed) = true := by
    rcases hstage with h | h <;> simp [h, hstuck]
  rw [execBusClear, running_of_not_inReset hr, hcond, whenever_true]

/-- A segment whose bus clear succeeds: its held work goes on, or the segment is ready (R64). -/
def Seg.cleared (g : Seg) : Seg :=
  g.ownStop.withEngine fun e =>
    if e.work.isSome then { e with state := .busy, stage := .onWire } else { e with state := .idle, stage := .none }

theorem exec_busClearSuccess_eq {r : ClearRun} (hr : s.inReset = false) (hstate : (s.engine r.segment).state = .clearing)
    (hstop : s.clearReachesStop r = true) : exec (.busClearSuccess r) s = .next (s.modSeg r.segment Seg.cleared) := by
  change execBusClearSuccess r s = _
  rw [execBusClearSuccess, running_of_not_inReset hr, hstate, hstop, beq_self_eq_true, Bool.and_self, whenever_true]
  exact congrArg Host.Outcome.next (State.modSeg_modSeg _ _ _ _)

theorem Seg.cleared_eq (g : Seg) : g.cleared = { g with
    scl := { g.scl with high := true }, sda := { g.sda with high := true }
    engine := { g.engine with state := if g.engine.work.isSome then .busy else .idle
                              stage := if g.engine.work.isSome then .onWire else .none
                              busBusy := false } } := by
  cases h : g.engine.work <;> simp [Seg.cleared, Seg.ownStop, Seg.rise, LineLevel.rise, Seg.withEngine, h]

/-- Settles O46. -/
theorem busClearStartsAndSucceeds : Obligations.BusClearStartsAndSucceeds := by
  refine fun s x hr => ⟨fun hstage hlow => ?start, fun r pulses hx h9 hlow hhigh => ⟨fun hstate hwaits => ?success,
    fun i hi hheld => ?held⟩⟩
  case start =>
    have hstuck : (s.seg x).lineStuck s.elapsed = true := by
      rw [Seg.lineStuck, Bool.or_eq_true, LineLevel.lowFor_iff, LineLevel.lowFor_iff]
      exact hlow
    obtain ⟨hframe, hother, hseg⟩ := s.modSeg_event x fun g => g.withEngine fun e =>
      { e with state := .clearing, stage := .none, waitSince := s.elapsed }
    exact ⟨_, exec_busClear_eq hr hstage hstuck, hframe, hother, hseg⟩
  all_goals
    subst hx
    have hpulses := pulsesGiven_eq r pulses h9 hlow hhigh
  case success =>
    have hstop : s.clearReachesStop r = true := by rw [State.clearReachesStop_iff, hpulses]; exact hwaits
    obtain ⟨hframe, hother, hseg⟩ := s.modSeg_event r.segment Seg.cleared
    exact ⟨_, exec_busClearSuccess_eq hr hstate hstop, hframe, hother, hseg.trans (Seg.cleared_eq _)⟩
  case held =>
    have hstop : s.clearReachesStop r = false := Bool.eq_false_iff.2 fun h =>
      absurd ((s.clearReachesStop_iff r).1 h i (hpulses ▸ hi)) (by omega)
    change execBusClearSuccess r s = _
    rw [execBusClearSuccess, running_of_not_inReset hr, hstop, Bool.and_false]
    rfl

end

end Sys2Proof.Machine
end

section
/-! PROOFS. The outcome of a transaction that ran to its STOP (R53 to R60). -/

namespace Sys2Proof.Machine

/-! ### The first byte that is not acknowledged (R57, R58) -/

section
variable (missing : Bool) (b : Byte) (e : WorkOutcome) (rest sent : List (Byte × WorkOutcome)) (acks : List Bool)

theorem firstNack_cons : firstNack missing ((b, e) :: rest) acks =
    if acks.getD 0 missing then firstNack missing rest acks.tail else some e := by
  cases acks <;> rfl

theorem getD_tail (i : Nat) : acks.tail.getD i missing = acks.getD (i + 1) missing := by
  cases acks <;> simp

theorem firstNack_eq_none_iff : firstNack missing sent acks = none ↔ ∀ i, i < sent.length → acks.getD i missing = true := by
  induction sent generalizing acks with
  | nil => simp [firstNack]
  | cons p rest ih =>
    rw [firstNack_cons, List.length_cons, Nat.forall_lt_succ_left']
    simp only [← getD_tail, ← ih]
    cases acks.getD 0 missing <;> simp

theorem firstNack_eq_some_iff : firstNack missing sent acks = some e ↔
    ∃ i, sent[i]?.map Prod.snd = some e ∧ acks.getD i missing = false ∧ ∀ j, j < i → acks.getD j missing = true := by
  induction sent generalizing acks with
  | nil => simp [firstNack]
  | cons p rest ih =>
    rw [firstNack_cons]
    cases hack : acks.getD 0 missing with
    | false =>
      constructor
      · exact fun h => ⟨0, by simpa using h, hack, by simp⟩
      · rintro ⟨i, hi, -, hall⟩
        cases i with
        | zero => simpa using hi
        | succ i => exact absurd (hack.symm.trans (hall 0 (Nat.succ_pos i))) Bool.false_ne_true
    | true =>
      rw [if_pos rfl, ih]
      constructor
      · rintro ⟨i, hi, hnack, hall⟩
        refine ⟨i + 1, hi, by rwa [← getD_tail], Nat.forall_lt_succ_left'.2 ⟨hack, fun j hj => ?_⟩⟩
        rw [← getD_tail]
        exact hall j hj
      · rintro ⟨i, hi, hnack, hall⟩
        cases i with
        | zero => exact absurd (hnack.symm.trans hack) Bool.false_ne_true
        | succ i =>
          exact ⟨i, hi, by rwa [getD_tail], fun j hj => by rw [getD_tail]; exact hall (j + 1) (Nat.succ_lt_succ hj)⟩

end

/-! ### The outcome -/

section
variable (x : Xfer) (w : WireResponse)

theorem Xfer.sent_eq : x.sent =
    (if x.writes ≠ [] ∨ x.reads = 0 then (x.address ++ 0#1, .addrNack) :: x.writes.map (fun b => (b, .dataNack)) else [])
      ++ (if x.reads = 0 then [] else [(x.address ++ 1#1, .addrNack)]) := by
  have hwrite : x.hasWrite = true ↔ x.writes ≠ [] ∨ x.reads = 0 := by simp [Xfer.hasWrite]
  have hread : x.hasRead = true ↔ ¬ x.reads = 0 := by simp [Xfer.hasRead]
  rw [Xfer.sent, if_congr hwrite rfl rfl, if_congr hread rfl rfl, ite_not]
  rfl

/-- A not-acknowledge gives the error of an address byte or of a data byte. -/
theorem Xfer.firstNack_mem {e : WorkOutcome} {missing : Bool} {acks : List Bool} (h : firstNack missing x.sent acks = some e) :
    e = .addrNack ∨ e = .dataNack := by
  obtain ⟨i, hi, -, -⟩ := (firstNack_eq_some_iff ..).1 h
  obtain ⟨p, hp, rfl⟩ := Option.map_eq_some_iff.1 hi
  have hmem := List.mem_of_getElem? hp
  rw [Xfer.sent_eq, List.mem_append] at hmem
  rcases hmem with hmem | hmem <;> split at hmem
  · rcases List.mem_cons.1 hmem with rfl | hmem
    · exact .inl rfl
    · obtain ⟨b, -, rfl⟩ := List.mem_map.1 hmem
      exact .inr rfl
  · cases hmem
  · cases hmem
  · exact .inl (by simp_all)

theorem Xfer.outcome_of_nack {e : WorkOutcome} {acks : List Bool} {received : List Byte}
    (h : firstNack false x.sent acks = some e) : x.outcome acks received = e := by
  rw [Xfer.outcome, h]

theorem Xfer.receive_of_acked (h : firstNack false x.sent w.acks = none) : x.receive w = x.readBytes w.reads := by
  rw [Xfer.receive, h]

theorem Xfer.readBytes_getD (reads : List Byte) {i : Nat} (hi : i < x.reads + if x.checked then 1 else 0) :
    (x.readBytes reads).getD i 0 = reads.getD i 0xFF#8 := by
  simp [Xfer.readBytes, hi]

theorem Xfer.outcome_of_acked (h : firstNack false x.sent w.acks = none) : x.outcome w.acks (x.receive w) =
    if x.checked = true ∧ w.reads.getD x.reads 0xFF#8 ≠ x.expectedCheck (x.receive w) then .checkFail else .success := by
  rw [Xfer.outcome, h]
  dsimp only
  cases hc : x.checked with
  | false => simp
  | true =>
    have hcheck : (x.receive w).getD x.reads 0 = w.reads.getD x.reads 0xFF#8 := by
      rw [x.receive_of_acked w h]
      exact x.readBytes_getD _ (by simp [hc])
    rw [hcheck]
    simp

/-- Settles O52. -/
theorem outcomeOfATransaction : Obligations.OutcomeOfATransaction := by
  intro x w
  refine ⟨?success, ?checkFail, fun e he => ?nack, fun hacked i hi => ?bytes, x.sent_eq, ?checked, fun p => rfl, fun r => rfl⟩
  case bytes =>
    rw [x.receive_of_acked w ((firstNack_eq_none_iff ..).2 hacked)]
    exact x.readBytes_getD _ (Nat.lt_add_right _ hi)
  case checked => simp [Xfer.checked, Xfer.hasRead]
  case success =>
    rw [← firstNack_eq_none_iff]
    cases hnack : firstNack false x.sent w.acks with
    | some e =>
      rw [x.outcome_of_nack hnack]
      rcases x.firstNack_mem hnack with rfl | rfl <;> simp
    | none => rw [x.outcome_of_acked w hnack]; split <;> simp_all
  case checkFail =>
    rw [← firstNack_eq_none_iff]
    cases hnack : firstNack false x.sent w.acks with
    | some e =>
      rw [x.outcome_of_nack hnack]
      rcases x.firstNack_mem hnack with rfl | rfl <;> simp
    | none => rw [x.outcome_of_acked w hnack]; split <;> simp_all
  case nack =>
    have hfirst : firstNack false x.sent w.acks = some e ↔ ∃ i, i < x.sent.length ∧ (x.sent[i]?.map Prod.snd) = some e
        ∧ w.acks.getD i false = false ∧ ∀ j, j < i → w.acks.getD j false = true := by
      rw [firstNack_eq_some_iff]
      refine exists_congr fun i => ⟨fun h => ⟨?_, h⟩, And.right⟩
      by_contra hle
      simp [List.getElem?_eq_none (not_lt.1 hle)] at h
    rw [← hfirst]
    cases hnack : firstNack false x.sent w.acks with
    | some e' => rw [x.outcome_of_nack hnack, Option.some.injEq]
    | none =>
      rw [x.outcome_of_acked w hnack]
      rcases he with rfl | rfl <;> split <;> simp

end

end Sys2Proof.Machine
end

section
/-! PROOFS. The Health Unit's judgement (R74 to R82), and the mean of N polls (R96). -/

namespace Sys2Proof.Machine

/-! ### Judgement (R74 to R82) -/

section
variable {g : Target} {o : WorkOutcome} {probe : Bool}

theorem WorkOutcome.counted_iff : o.counted = true ↔ o = .addrNack ∨ o = .dataNack ∨ o = .stretchTimeout ∨ o = .checkFail := by
  cases o <;> simp [WorkOutcome.counted]

theorem WorkOutcome.ne_success_of_counted (h : o.counted = true) : o ≠ .success := by rintro rfl; cases h

theorem Target.judge_in_use (h : g.health = .active ∨ g.health = .suspect) : g.judge o probe =
    if o = .success then ({ g with health := .active, failures := 0 }, .none) else if o.counted then g.fail else (g, .none) := by
  rcases h with h | h <;> rw [Target.judge, h]

theorem Target.judge_probing (h : g.health = .probing) : g.judge o true =
    if o = .success then
      ({ g with health := .active, failures := 0, current := g.d.baseBackoff.toNat, remaining := 0 }, .restored)
    else if o.counted then
      ({ g with health := .quarantined, failures := g.d.threshold.toNat, current := g.doubled, remaining := g.doubled },
       .quarantined)
    else (g, .none) := by
  rw [Target.judge, h]
  rfl

/-- An outcome that says nothing of the target leaves it as it is. -/
theorem Target.judge_of_not_counted (h : o = .arbLost ∨ o = .busStuck) : g.judge o probe = (g, .none) := by
  have hne : o ≠ .success := by rcases h with rfl | rfl <;> simp
  have hcounted : o.counted = false := by rcases h with rfl | rfl <;> rfl
  unfold Target.judge
  cases g.health with
  | probing => cases probe <;> simp [hne, hcounted]
  | _ => simp [hne, hcounted]

theorem Target.judge_held (h : g.health = .held) : g.judge o probe = (g, .none) := by rw [Target.judge, h]

theorem Target.judge_quarantined (h : g.health = .quarantined) : g.judge o probe = (g, .none) := by rw [Target.judge, h]

/-- Settles O58. -/
theorem healthUnitJudgesCompletions : Obligations.HealthUnitJudgesCompletions := by
  refine fun g o probe => ⟨fun h => ⟨fun ho => ?_, fun ho hlt => ?_, fun ho heq => ?_⟩, fun h => ⟨fun ho => ?_, fun ho hf b hb => ?_⟩,
    Target.judge_of_not_counted, Target.judge_held, WorkOutcome.counted_iff⟩
  · rw [Target.judge_in_use h, if_pos ho]
  · rw [Target.judge_in_use h, if_neg (WorkOutcome.ne_success_of_counted ho), if_pos ho, Target.fail, if_pos hlt]
  · rw [Target.judge_in_use h, if_neg (WorkOutcome.ne_success_of_counted ho), if_pos ho, Target.fail, if_neg (by omega), heq]
  · rw [Target.judge_probing h, if_pos ho]
  · have hdoubled : g.doubled = b := by rw [hb, Target.doubled, min_def]
    rw [Target.judge_probing h, if_neg (WorkOutcome.ne_success_of_counted ho), if_pos ho, hdoubled, hf]

end

/-! ### The mean (R96) -/

section
variable {e : Entry}

theorem Entry.reports_append (e : Entry) (vs ws : List (Int × List Byte)) : e.reports (vs ++ ws) =
    (((e.reports vs).1.reports ws).1, (e.reports vs).2 ++ ((e.reports vs).1.reports ws).2) := by
  induction vs generalizing e with
  | nil => rfl
  | cons v vs ih => simp only [List.cons_append, Entry.reports, ih]

theorem Entry.report_mean (h : e.d.mode = .mean) (v : Int) (data : List Byte) : e.report v data =
    if e.meanHeld + 1 < meanCount e.d.meanCode then ({ e with meanSum := e.meanSum + v, meanHeld := e.meanHeld + 1 }, none)
    else ({ e with meanSum := 0, meanHeld := 0 },
      some (true, [loByte (valueField ((e.meanSum + v).fdiv (meanCount e.d.meanCode))),
                   hiByte (valueField ((e.meanSum + v).fdiv (meanCount e.d.meanCode)))])) := by
  simp only [Entry.report, h]

/-- Values that do not fill the accumulator are added up, and no record is formed. -/
theorem Entry.reports_of_lt (h : e.d.mode = .mean) (vs : List (Int × List Byte))
    (hlt : e.meanHeld + vs.length < meanCount e.d.meanCode) : e.reports vs =
      ({ e with meanSum := e.meanSum + (vs.map Prod.fst).sum, meanHeld := e.meanHeld + vs.length }, vs.map fun _ => none) := by
  induction vs generalizing e with
  | nil => simp [Entry.reports]
  | cons v vs ih =>
    rw [List.length_cons] at hlt
    have hstep : e.report v.1 v.2 = ({ e with meanSum := e.meanSum + v.1, meanHeld := e.meanHeld + 1 }, none) := by
      rw [Entry.report_mean h, if_pos (by omega)]
    simp only [Entry.reports, hstep]
    rw [ih (e := { e with meanSum := e.meanSum + v.1, meanHeld := e.meanHeld + 1 }) h (by dsimp only; omega)]
    simp [add_assoc, add_comm 1]

theorem meanCount_mem (c : BitVec 2) : meanCount c = 2 ∨ meanCount c = 4 ∨ meanCount c = 8 ∨ meanCount c = 16 := by
  revert c; decide

/-- Values of a range have their sum in the range's multiple. -/
theorem sum_mem_range {lo hi : Int} (vs : List (Int × List Byte)) (h : ∀ v ∈ vs, lo ≤ v.1 ∧ v.1 ≤ hi) :
    vs.length * lo ≤ (vs.map Prod.fst).sum ∧ (vs.map Prod.fst).sum ≤ vs.length * hi := by
  induction vs with
  | nil => simp
  | cons v vs ih =>
    obtain ⟨hlo, hhi⟩ := h v (by simp)
    obtain ⟨ihlo, ihhi⟩ := ih fun w hw => h w (by simp [hw])
    simp only [List.length_cons, List.map_cons, List.sum_cons]
    push_cast
    constructor <;> linarith

/-- Settles O56. -/
theorem meanOfNPolls : Obligations.MeanOfNPolls := by
  rintro e vs hmode hsum hheld N rfl hrange
  refine ⟨meanCount_mem _, fun hlt => ?short, fun hlen => ?full, fun n t g o => ?failed⟩
  case short => rw [Entry.reports_of_lt hmode vs (by omega), hsum, hheld, zero_add, zero_add]
  case full =>
    have hpos : 0 < meanCount e.d.meanCode := by rcases meanCount_mem e.d.meanCode with h | h | h | h <;> omega
    obtain ⟨init, last, rfl⟩ : ∃ init last, vs = init ++ [last] :=
      ⟨_, _, (List.dropLast_append_getLast (List.ne_nil_of_length_pos (hlen ▸ hpos))).symm⟩
    rw [List.length_append, List.length_singleton] at hlen
    set total := ((init ++ [last]).map Prod.fst).sum with htotal
    have hadd : (init.map Prod.fst).sum + last.1 = total := by simp [htotal]
    refine ⟨loByte (valueField (total.fdiv (meanCount e.d.meanCode))), hiByte (valueField (total.fdiv (meanCount e.d.meanCode))),
      ?_, ?_⟩
    · rw [Entry.reports_append, Entry.reports_of_lt hmode init (by omega)]
      simp only [Entry.reports]
      rw [Entry.report_mean (by exact hmode), if_neg (by dsimp only; omega)]
      rw [show ({ e with meanSum := 0, meanHeld := 0 } : Entry) = e by rw [← hsum, ← hheld]]
      simp [hsum, hadd]
    · obtain ⟨hlo, hhi⟩ := sum_mem_range _ hrange
      rw [List.length_append, List.length_singleton, hlen, ← htotal] at hlo hhi
      have hfloor : total.fdiv (meanCount e.d.meanCode) = ⌊((total : ℤ) : ℚ) / (meanCount e.d.meanCode : ℚ)⌋ := by
        rw [Rat.floor_intCast_div_natCast, Int.fdiv_eq_ediv_of_nonneg _ (Int.natCast_nonneg _)]
      have hposInt : (0 : Int) < (meanCount e.d.meanCode : Nat) := by exact_mod_cast hpos
      rw [joinBytes_loByte_hiByte, fieldInt_valueField, hfloor]
      · rw [Int.fdiv_eq_ediv_of_nonneg _ hposInt.le]
        exact (Int.le_ediv_iff_mul_le hposInt).2 (by linarith)
      · rw [Int.fdiv_eq_ediv_of_nonneg _ hposInt.le]
        exact Int.ediv_le_of_le_mul hposInt (by linarith)
  case failed => unfold Entry.failPoll; dsimp only; split <;> exact ⟨rfl, rfl⟩

end

end Sys2Proof.Machine
end

section
/-! PROOFS. The processing of a poll's completion (R62, R74, R78, R89, R90, R103). -/

namespace Sys2Proof.Machine

/-! ### What the judgement and the Result Stage leave alone -/

section
variable (g : Target) (e : Entry) (o : WorkOutcome) (probe : Bool) (p : PollWork) (v : Int) (data : List Byte)

theorem Target.fail_d : g.fail.1.d = g.d := by
  unfold Target.fail
  split <;> rfl

@[simp] theorem Target.judge_d : (g.judge o probe).1.d = g.d := by
  unfold Target.judge
  cases g.health <;> simp [apply_ite Prod.fst, apply_ite Target.d, Target.fail_d]

/-- What an entry is, when it is due and that it is in flight: no part of a completion's processing touches these. -/
def Entry.keepsPlace (e e' : Entry) : Prop :=
  e'.defined = e.defined ∧ e'.d = e.d ∧ e'.nextDue = e.nextDue ∧ e'.due = e.due ∧ e'.inFlight = e.inFlight

theorem Entry.keepsPlace_report : e.keepsPlace (e.report v data).1 := by
  unfold Entry.report
  split
  · exact ⟨rfl, rfl, rfl, rfl, rfl⟩
  · split <;> exact ⟨rfl, rfl, rfl, rfl, rfl⟩
  · dsimp only; split <;> exact ⟨rfl, rfl, rfl, rfl, rfl⟩
  · exact ⟨rfl, rfl, rfl, rfl, rfl⟩

theorem Entry.keepsPlace_classify : e.keepsPlace (e.classify v).1 := by
  unfold Entry.classify
  split
  · exact ⟨rfl, rfl, rfl, rfl, rfl⟩
  · split
    · exact ⟨rfl, rfl, rfl, rfl, rfl⟩
    · split <;> exact ⟨rfl, rfl, rfl, rfl, rfl⟩

theorem Entry.keepsPlace.trans {e e' e'' : Entry} (h : e.keepsPlace e') (h' : e'.keepsPlace e'') : e.keepsPlace e'' := by
  obtain ⟨hdef, hd, hnext, hdue, hflight⟩ := h
  obtain ⟨hdef', hd', hnext', hdue', hflight'⟩ := h'
  exact ⟨hdef'.trans hdef, hd'.trans hd, hnext'.trans hnext, hdue'.trans hdue, hflight'.trans hflight⟩

theorem Entry.keepsPlace_process : e.keepsPlace (e.process p g o data).entry := by
  unfold Entry.process
  split
  · have hreported : e.keepsPlace (if (e.report (e.d.value data) data).2.isSome
        then { (e.report (e.d.value data) data).1 with overrun := 0 } else (e.report (e.d.value data) data).1) := by
      split <;> exact e.keepsPlace_report _ data
    exact hreported.trans (Entry.keepsPlace_classify _ _)
  · unfold Entry.failPoll
    dsimp only
    split <;> exact ⟨rfl, rfl, rfl, rfl, rfl⟩

end

/-! ### The parts of the processing -/

section
variable (s : State) (p : PollWork) (o : WorkOutcome) (data : List Byte) (n : EntryNo) (k : TargetNo) (y : Segment)

/-- The Health Unit's judgement of a completion (R74). -/
def State.judgement : Target × Verdict := (s.target p.target).judge o p.probe

/-- The Result Stage's part of a completion (R89). -/
def State.pollResult : Result := (s.entry p.entry).process p (s.judgement p o).1 o data

/-- The records a completion hands over, in order (R90). -/
def State.pollRecords : List Body :=
  restoredRecords p (s.judgement p o).2 ++ (s.pollResult p o data).records
    ++ (if (s.judgement p o).2 = .quarantined then s.droppedRecords p.target (s.judgement p o).1 else [])

/-- Entry n once the Result Stage has stored its part. -/
def State.storedEntry : Entry := if n = p.entry then (s.pollResult p o data).entry else s.entry n

theorem State.keepsPlace_storedEntry : (s.entry n).keepsPlace (s.storedEntry p o data n) := by
  unfold State.storedEntry
  split
  · next h => rw [h]; exact Entry.keepsPlace_process ..
  · exact ⟨rfl, rfl, rfl, rfl, rfl⟩

theorem State.entry_ite (c : Prop) [Decidable c] (t u : State) : (if c then t else u).entry n = if c then t.entry n else u.entry n :=
  apply_ite (State.entry · n) c t u

theorem State.target_ite (c : Prop) [Decidable c] (t u : State) :
    (if c then t else u).target k = if c then t.target k else u.target k := apply_ite (State.target · k) c t u

theorem State.seg_ite (c : Prop) [Decidable c] (t u : State) : (if c then t else u).seg y = if c then t.seg y else u.seg y :=
  apply_ite (State.seg · y) c t u

/-- The state once judgement and result are stored, before the records are handed over. -/
def State.processed : State :=
  let s2 := (s.setTarget p.target (s.judgement p o).1).setEntry p.entry (s.pollResult p o data).entry
  let s3 := if (s.judgement p o).2 = .quarantined then unlistTarget p.target s2 else s2
  let s4 := if (s.judgement p o).2 = .none then s3 else setHealthFlag s3
  if (s.pollResult p o data).transition then reevaluateLimit (setBandPending p.entry s4) else s4

theorem processCompletion_eq : processCompletion p o data s = admitRecords (s.pollRecords p o data) (s.processed p o data) :=
  rfl

theorem State.processed_frame : s.processed p o data =
    { s with
      entries := (s.processed p o data).entries, targets := (s.processed p o data).targets
      segA := (s.processed p o data).segA, segB := (s.processed p o data).segB
      sticky := { s.sticky with health := s.sticky.health || decide ((s.judgement p o).2 ≠ .none) }
      bandPending := if (s.pollResult p o data).transition then s.bandPending ||| (1#32 <<< p.entry.val) else s.bandPending
      limit := (s.processed p o data).limit } := by
  have hlisted (t : State) : (if (s.judgement p o).2 = .quarantined then unlistTarget p.target t else t)
      = { t with entries := (if (s.judgement p o).2 = .quarantined then unlistTarget p.target t else t).entries
                 segA := (if (s.judgement p o).2 = .quarantined then unlistTarget p.target t else t).segA
                 segB := (if (s.judgement p o).2 = .quarantined then unlistTarget p.target t else t).segB } := by
    split
    · exact unlistTarget_frame p.target t
    · rfl
  unfold State.processed
  dsimp only
  rw [hlisted]
  by_cases hv : (s.judgement p o).2 = .none <;> by_cases htr : (s.pollResult p o data).transition = true <;>
    apply State.ext <;> simp [hv, htr, setHealthFlag, setBandPending]

@[simp] theorem processCompletion_target : (processCompletion p o data s).target k =
    if k = p.target then (s.judgement p o).1 else s.target k := by
  rw [processCompletion_eq, State.processed]
  simp [State.target_ite]

@[simp] theorem processCompletion_entry : (processCompletion p o data s).entry n =
    { s.storedEntry p o data n with
      due := if (s.judgement p o).2 = .quarantined ∧ (s.entry n).d.target = p.target then none else (s.entry n).due } := by
  obtain ⟨hdef, hd, hnext, hdue, hflight⟩ := s.keepsPlace_storedEntry p o data n
  have hstored : ((s.setTarget p.target (s.judgement p o).1).setEntry p.entry (s.pollResult p o data).entry).entry n
      = s.storedEntry p o data n := by simp [State.storedEntry]
  rw [processCompletion_eq, State.processed, ← hdue, ← hd]
  simp only [admitRecords_entry, State.entry_ite, reevaluateLimit_entry, setBandPending_entry, setHealthFlag_entry,
    unlistTarget_entry, hstored, ite_self]
  by_cases hq : (s.judgement p o).2 = .quarantined <;> by_cases ht : (s.storedEntry p o data n).d.target = p.target <;>
    simp only [hq, ht, and_self, and_false, false_and, if_true, if_false]

@[simp] theorem processCompletion_seg : (processCompletion p o data s).seg y =
    if (s.judgement p o).2 = .quarantined ∧ y = (s.target p.target).d.segment
    then { s.seg y with oneShot := (s.seg y).oneShot.filter fun n => (s.entry n).d.target != p.target } else s.seg y := by
  have hd (n : EntryNo) : (((s.setTarget p.target (s.judgement p o).1).setEntry p.entry
      (s.pollResult p o data).entry).entry n).d.target = (s.entry n).d.target := by
    have := (s.keepsPlace_storedEntry p o data n).2.1
    rw [State.storedEntry] at this
    simp [this]
  have hjudged : (s.judgement p o).1.d = (s.target p.target).d := Target.judge_d ..
  rw [processCompletion_eq, State.processed]
  simp only [admitRecords_seg, State.seg_ite, reevaluateLimit_seg, setBandPending_seg, setHealthFlag_seg, ite_self,
    unlistTarget_seg, State.seg_setEntry, State.seg_setTarget, State.target_setEntry, State.target_setTarget, if_true, hd, hjudged]
  by_cases hq : (s.judgement p o).2 = .quarantined <;> simp [hq]

theorem processCompletion_queue : (processCompletion p o data s).queue =
    (s.queue.admitGroup s.ctrl.evict s.port.pinned s.stamp (s.pollRecords p o data)).1 := by
  rw [processCompletion_eq, admitRecords_queue, State.processed_frame]
  rfl

theorem processCompletion_sticky : (processCompletion p o data s).sticky = { s.sticky with
    health := s.sticky.health || decide ((s.judgement p o).2 ≠ .none)
    loss := s.sticky.loss || (s.queue.admitGroup s.ctrl.evict s.port.pinned s.stamp (s.pollRecords p o data)).2 } := by
  rw [processCompletion_eq, admitRecords_sticky, State.processed_frame]
  rfl

theorem processCompletion_bandPending : (processCompletion p o data s).bandPending =
    if (s.pollResult p o data).transition then s.bandPending ||| (1#32 <<< p.entry.val) else s.bandPending := by
  rw [processCompletion_eq, State.processed_frame]
  rfl

theorem processCompletion_limit : (processCompletion p o data s).limit =
    if (s.pollResult p o data).transition then (processCompletion p o data s).limitLaw else s.limit := by
  rw [processCompletion_eq]
  change (s.processed p o data).limit = if _ then (s.processed p o data).limitLaw else s.limit
  unfold State.processed
  by_cases htr : (s.pollResult p o data).transition = true
  · simp only [htr, if_true]
    rfl
  · simp only [htr]
    by_cases hv : (s.judgement p o).2 = .none <;> by_cases hq : (s.judgement p o).2 = .quarantined <;> simp [hv, hq, setHealthFlag]

end

/-! ### The end of the processing (R152) -/

section
variable {s t : State} {x : Segment} {p : PollWork} {o : WorkOutcome} {data : List Byte}

theorem State.deferredBehind_congr (h : t.cu.wait = s.cu.wait) (p : PollWork) : t.deferredBehind p = s.deferredBehind p := by
  unfold State.deferredBehind
  rw [h]

theorem endProcessing_of_not_deferred (h : s.deferredBehind p = false) : endProcessing p s = clearInFlight p.entry s := by
  unfold State.deferredBehind at h
  unfold endProcessing
  split <;> simp_all

theorem finishPoll_of_not_deferred (h : s.deferredBehind p = false) :
    finishPoll p o data s = clearInFlight p.entry (processCompletion p o data s) :=
  endProcessing_of_not_deferred ((State.deferredBehind_congr (by simp) p).trans h)

theorem State.judgement_releaseEngine (st : EngineState) : (releaseEngine x st s).judgement p o = s.judgement p o := by
  simp [State.judgement]

theorem State.pollResult_releaseEngine (st : EngineState) : (releaseEngine x st s).pollResult p o data = s.pollResult p o data := by
  simp [State.pollResult, State.judgement]

theorem State.pollRecords_releaseEngine (st : EngineState) :
    (releaseEngine x st s).pollRecords p o data = s.pollRecords p o data := by
  have hdropped (g : Target) : (releaseEngine x st s).droppedRecords p.target g = s.droppedRecords p.target g := by
    simp only [State.droppedRecords, State.requestsOf, releaseEngine_target, releaseEngine_entry, releaseEngine_seg]
    split <;> rfl
  rw [State.pollRecords, State.judgement_releaseEngine, State.pollResult_releaseEngine, hdropped]
  rfl

theorem clearInFlight_limitLaw (n : EntryNo) (s : State) : (clearInFlight n s).limitLaw = s.limitLaw := by
  refine State.limitLaw_congr fun m => ?_
  rw [clearInFlight_entry]
  split <;> rfl

/-- Work of a poll that ends with no load deferred behind it. -/
theorem finishWork_poll_eq (st : EngineState) (hd : s.deferredBehind p = false) : finishWork x (.poll p) o data st s
    = clearInFlight p.entry (processCompletion p o data (releaseEngine x st s)) :=
  finishPoll_of_not_deferred ((State.deferredBehind_congr (by simp) p).trans hd)

theorem finishWork_poll_target (st : EngineState) (hd : s.deferredBehind p = false) (k : TargetNo) :
    (finishWork x (.poll p) o data st s).target k = if k = p.target then (s.judgement p o).1 else s.target k := by
  rw [finishWork_poll_eq st hd, clearInFlight_target, processCompletion_target, State.judgement_releaseEngine,
    releaseEngine_target]

theorem finishWork_poll_entry (st : EngineState) (hd : s.deferredBehind p = false) (n : EntryNo) :
    (finishWork x (.poll p) o data st s).entry n =
      { s.storedEntry p o data n with
        due := if (s.judgement p o).2 = .quarantined ∧ (s.entry n).d.target = p.target then none else (s.entry n).due
        inFlight := if n = p.entry then false else (s.entry n).inFlight } := by
  have hflight := (s.keepsPlace_storedEntry p o data n).2.2.2.2
  have hstored : (releaseEngine x st s).storedEntry p o data n = s.storedEntry p o data n := by
    simp [State.storedEntry, State.pollResult_releaseEngine]
  rw [finishWork_poll_eq st hd, clearInFlight_entry, processCompletion_entry, State.judgement_releaseEngine, hstored,
    releaseEngine_entry]
  split
  · rfl
  · rw [← hflight]

theorem finishWork_poll_seg (st : EngineState) (hd : s.deferredBehind p = false) (y : Segment) :
    (finishWork x (.poll p) o data st s).seg y = { s.seg y with
      engine := if y = x then { s.engine y with state := st, work := none, stage := .none, received := [] } else s.engine y
      oneShot := if (s.judgement p o).2 = .quarantined ∧ y = (s.target p.target).d.segment
                 then (s.seg y).oneShot.filter fun n => (s.entry n).d.target != p.target else (s.seg y).oneShot } := by
  rw [finishWork_poll_eq st hd, clearInFlight_seg, processCompletion_seg, State.judgement_releaseEngine, releaseEngine_seg,
    releaseEngine_target]
  simp only [releaseEngine_entry]
  split <;> split <;> rfl

theorem finishWork_poll_frame (st : EngineState) (hd : s.deferredBehind p = false) : finishWork x (.poll p) o data st s =
    { s with
      entries := (finishWork x (.poll p) o data st s).entries, targets := (finishWork x (.poll p) o data st s).targets
      segA := (finishWork x (.poll p) o data st s).segA, segB := (finishWork x (.poll p) o data st s).segB
      queue := (s.queue.admitGroup s.ctrl.evict s.port.pinned s.stamp (s.pollRecords p o data)).1
      sticky := { s.sticky with
        health := s.sticky.health || decide ((s.judgement p o).2 ≠ .none)
        loss := s.sticky.loss || (s.queue.admitGroup s.ctrl.evict s.port.pinned s.stamp (s.pollRecords p o data)).2 }
      bandPending := if (s.pollResult p o data).transition then s.bandPending ||| (1#32 <<< p.entry.val) else s.bandPending
      limit := if (s.pollResult p o data).transition then (finishWork x (.poll p) o data st s).limitLaw else s.limit } := by
  have hstamp : (releaseEngine x st s).stamp = s.stamp := by simp [State.stamp]
  rw [finishWork_poll_eq st hd, clearInFlight_limitLaw]
  generalize hu : processCompletion p o data (releaseEngine x st s) = u
  have hqueue : u.queue = (s.queue.admitGroup s.ctrl.evict s.port.pinned s.stamp (s.pollRecords p o data)).1 := by
    rw [← hu, processCompletion_queue, State.pollRecords_releaseEngine, hstamp]
    simp
  have hsticky : u.sticky = { s.sticky with
      health := s.sticky.health || decide ((s.judgement p o).2 ≠ .none)
      loss := s.sticky.loss || (s.queue.admitGroup s.ctrl.evict s.port.pinned s.stamp (s.pollRecords p o data)).2 } := by
    rw [← hu, processCompletion_sticky, State.pollRecords_releaseEngine, State.judgement_releaseEngine, hstamp]
    simp
  have hband : u.bandPending =
      if (s.pollResult p o data).transition then s.bandPending ||| (1#32 <<< p.entry.val) else s.bandPending := by
    rw [← hu, processCompletion_bandPending, State.pollResult_releaseEngine]
    simp
  have hlimit : u.limit = if (s.pollResult p o data).transition then u.limitLaw else s.limit := by
    conv_lhs => rw [← hu, processCompletion_limit, State.pollResult_releaseEngine, hu]
    simp
  rw [← hqueue, ← hsticky, ← hband, ← hlimit]
  subst hu
  apply State.ext <;> simp

/-- A poll that ends with no load deferred behind it (R62, R89). -/
theorem pollEnds_finishWork (hd : s.deferredBehind p = false) : s.pollEnds (finishWork x (.poll p) o data .idle s) x p o data := by
  rintro j rfl r rfl bs rfl q rfl
  refine ⟨finishWork_poll_frame .idle hd, ?_, fun k hk => ?_, ?_, fun n hn => ?_, finishWork_poll_seg .idle hd⟩
  · rw [finishWork_poll_target .idle hd, if_pos rfl]; rfl
  · rw [finishWork_poll_target .idle hd, if_neg hk]
  · rw [finishWork_poll_entry .idle hd, State.storedEntry, if_pos rfl, if_pos rfl]; rfl
  · rw [finishWork_poll_entry .idle hd, State.storedEntry, if_neg hn, if_neg hn]; rfl

end

end Sys2Proof.Machine
end

section
/-! PROOFS. Work that comes to its STOP: polls (R62, R89, R90) and raw transfers (R69, R70). -/

namespace Sys2Proof.Machine

/-! ### The end of a raw transfer (R69, R70, R159) -/

section
variable {s : State} {x : Segment} {r r' : RawParams} {st : RawStage} {o : WorkOutcome} {data : List Byte}

theorem finishRaw_of_aborted (h : s.cu.wait = some (.raw .aborted r')) : finishRaw r o data s = complete resAborted 0 s := by
  rw [finishRaw, h]

theorem finishRaw_of_onSegment (h : s.cu.wait = some (.raw .onSegment r')) : finishRaw r o data s =
    complete o.rawResult 0 (if o = .success ∨ o = .checkFail
      then { s with mem := Memory.writeBytes s.mem rawBufferBase (data.take r.readCount.val) } else s) := by
  rw [finishRaw, h]

/-- A raw transfer ends, aborted on its segment or not. -/
theorem rawEnds_finishWork (hwait : s.cu.wait = some (.raw st r')) (hst : st ≠ .pending)
    (hdata : o = .success ∨ o = .checkFail → Memory.wf s.mem = true ∧ data.length = r.readCount.val) :
    s.rawEnds (finishWork x (.raw r) o data .idle s) x st r o data := by
  have hseg (y : Segment) : (finishWork x (.raw r) o data .idle s).seg y = { s.seg y with engine :=
      if y = x then { s.engine y with state := .idle, work := none, stage := .none, received := [] } else s.engine y } := by
    change (finishRaw r o data (releaseEngine x .idle s)).seg y = _
    rw [State.seg_congr (finishRaw_segA r o data _) (finishRaw_segB r o data _), releaseEngine_seg]
    split <;> rfl
  have hwait' : (releaseEngine x .idle s).cu.wait = some (.raw st r') := by simpa using hwait
  cases st with
  | pending => exact absurd rfl hst
  | aborted =>
    have hfinish : finishWork x (.raw r) o data .idle s = complete resAborted 0 (releaseEngine x .idle s) :=
      finishRaw_of_aborted hwait'
    refine ⟨?_, ?_, hseg, fun a => ?_⟩ <;> rw [hfinish]
    · exact ⟨by simp [complete, resAborted], rfl⟩
    · apply State.ext <;> simp [complete]
    · simp
  | onSegment =>
    have hfinish : finishWork x (.raw r) o data .idle s = complete o.rawResult 0 (if o = .success ∨ o = .checkFail
        then { releaseEngine x .idle s with
                mem := Memory.writeBytes (releaseEngine x .idle s).mem rawBufferBase (data.take r.readCount.val) }
        else releaseEngine x .idle s) := finishRaw_of_onSegment hwait'
    refine ⟨?_, ?_, hseg, fun a => ?_⟩ <;> rw [hfinish]
    · split <;> exact ⟨by simp [complete], rfl⟩
    · split <;> apply State.ext <;> simp [complete]
    · by_cases ho : o = .success ∨ o = .checkFail
      · obtain ⟨hwf, hlen⟩ := hdata ho
        have hread := Memory.read_writeBytes a (data.take r.readCount.val) rawBufferBase (m := s.mem) hwf
        rw [List.take_of_length_le hlen.le, hlen, rawBufferBase] at hread
        rw [if_pos ho]
        simp only [complete_mem, releaseEngine_mem, ne_eq, reduceCtorEq, not_false_eq_true, true_and, ho]
        rw [List.take_of_length_le hlen.le]
        exact hread
      · rw [if_neg ho]
        simp [ho]

end

/-! ### Completions -/

section
variable {s : State} {x : Segment} {w : WireResponse}

theorem Seg.linesHigh_iff (g : Seg) : g.linesHigh = true ↔ g.scl.high = true ∧ g.sda.high = true := by simp [Seg.linesHigh]

theorem State.workToStop_of_stage {v : Work} (hwork : (s.engine x).work = some v)
    (hstage : (s.engine x).stage = .onWire
      ∨ ((s.engine x).stage = .stopGap ∧ (s.seg x).scl.high = true ∧ (s.seg x).sda.high = true)) : s.workToStop x = some v := by
  rw [State.workToStop, if_pos (hstage.imp_right (And.imp_right (Seg.linesHigh_iff _).2)), hwork]

theorem State.workToStop_of_low (hstage : (s.engine x).stage = .stopGap)
    (hlow : (s.seg x).scl.high = false ∨ (s.seg x).sda.high = false) : s.workToStop x = none := by
  have hlines : (s.seg x).linesHigh = false := by rcases hlow with h | h <;> simp [Seg.linesHigh, h]
  rw [State.workToStop, if_neg (by simp [hstage, hlines])]

theorem exec_completion_eq {p : PollWork} (hr : s.inReset = false) (hwork : s.workToStop x = some (.poll p)) :
    exec (.completion x w) s = .next (finishWork x (.poll p) ((Work.poll p).xfer.outcome w.acks ((Work.poll p).xfer.receive w))
      (((Work.poll p).xfer.receive w).take p.length.val) .idle (ownStop x s)) := by
  change execCompletion x w s = _
  rw [execCompletion, running_of_not_inReset hr, hwork]
  exact congrArg _ (runToStop_eq x (.poll p) w s)

theorem exec_completion_of_none (hr : s.inReset = false) (hwork : s.workToStop x = none) :
    exec (.completion x w) s = .next s := by
  change execCompletion x w s = _
  rw [execCompletion, running_of_not_inReset hr, hwork]

theorem exec_rawTransferCompletion_eq {r : RawParams} (hr : s.inReset = false) (hwork : s.workToStop x = some (.raw r)) :
    exec (.rawTransferCompletion x w) s =
      .next (finishWork x (.raw r) ((Work.raw r).xfer.outcome w.acks ((Work.raw r).xfer.receive w))
        (((Work.raw r).xfer.receive w).take r.readCount.val) .idle (ownStop x s)) := by
  change execRawTransferCompletion x w s = _
  rw [execRawTransferCompletion, running_of_not_inReset hr, hwork]
  exact congrArg _ (runToStop_eq x (.raw r) w s)

theorem exec_rawTransferCompletion_of_none (hr : s.inReset = false) (hwork : s.workToStop x = none) :
    exec (.rawTransferCompletion x w) s = .next s := by
  change execRawTransferCompletion x w s = _
  rw [execRawTransferCompletion, running_of_not_inReset hr, hwork]

/-- What a failed poll hands over: one Fault record but for BUS_STUCK (R99, R104). -/
theorem Entry.process_of_ne_success (e : Entry) (p : PollWork) (g : Target) {o : WorkOutcome} (data : List Byte)
    (ho : o ≠ .success) : e.process p g o data = e.failPoll p.entry p.target g o := if_neg ho

/-- Settles O49. -/
theorem pollCompletes : Obligations.PollCompletes := by
  refine ⟨fun s x w p hr hwork hd xf hxf => ⟨fun hstage => ?stop, fun hgap hlow => ?waits⟩,
    fun e p g data => ⟨rfl, fun f hf => ?fault, ?stuck⟩, fun p v => rfl, fun s k g => rfl⟩
  case stop =>
    subst hxf
    refine ⟨_, ownStop x s, exec_completion_eq hr (State.workToStop_of_stage hwork hstage), rfl, pollEnds_finishWork ?_⟩
    exact (State.deferredBehind_congr (by simp) p).trans hd
  case waits => exact exec_completion_of_none hr (State.workToStop_of_low hgap hlow)
  case fault =>
    simp only [List.mem_cons, List.not_mem_nil, or_false] at hf
    rcases hf with rfl | rfl | rfl | rfl | rfl
    iterate 5 rw [Entry.process_of_ne_success _ _ _ _ (by simp)]; rfl
  case stuck => rw [Entry.process_of_ne_success _ _ _ _ (by simp)]; rfl

theorem Xfer.length_readBytes (xf : Xfer) (reads : List Byte) : xf.reads ≤ (xf.readBytes reads).length := by
  simp [Xfer.readBytes]

/-- A transaction that was acknowledged throughout has all its data bytes. -/
theorem Xfer.length_received (xf : Xfer) (w : WireResponse)
    (h : xf.outcome w.acks (xf.receive w) = .success ∨ xf.outcome w.acks (xf.receive w) = .checkFail) :
    ((xf.receive w).take xf.reads).length = xf.reads := by
  cases hnack : firstNack false xf.sent w.acks with
  | some e =>
    rw [xf.outcome_of_nack hnack] at h
    rcases xf.firstNack_mem hnack with rfl | rfl <;> simp at h
  | none =>
    rw [xf.receive_of_acked w hnack]
    exact List.length_take_of_le (xf.length_readBytes _)

/-- Settles O51. -/
theorem rawTransferCompletes : Obligations.RawTransferCompletes := by
  intro s x w r st hr hmem hwork hwait hst xf hxf
  subst hxf
  refine ⟨fun hstage => ?_, fun hgap hlow => exec_rawTransferCompletion_of_none hr (State.workToStop_of_low hgap hlow)⟩
  refine ⟨_, ownStop x s, exec_rawTransferCompletion_eq hr (State.workToStop_of_stage hwork hstage), rfl,
    rawEnds_finishWork (r' := r) ?_ hst fun ho => ⟨?_, (Work.raw r).xfer.length_received w ho⟩⟩
  · simpa using hwait
  · simpa using hmem.1

end

end Sys2Proof.Machine
end

section
/-! PROOFS. Work that ends before its STOP: stretch timeouts (R59) and arbitration losses (R61). -/

namespace Sys2Proof.Machine

section
variable {s : State} {x : Segment}

/-! ### Stretch timeouts (R54, R57 to R59) -/

theorem Seg.giveUp_eq (line : LineName) (waited : Nat) (h : HeldTransfer) (gap : Bool) (L now : Nat) (g : Seg) :
    g.giveUp line waited h gap L now = { g with
      scl := if line = .scl ∧ 2 * L ≤ waited then
               { high := false, fell := max g.scl.fell ((now : Int) - ((waited + h.lowBefore : Nat) : Int)) }
             else if line = .sda ∧ gap = true then g.scl else { g.scl with high := true }
      sda := if line = .sda then
               { high := false, fell := max g.sda.fell ((now : Int) - ((waited + h.lowBefore : Nat) : Int)) }
             else if 2 * L ≤ waited then g.sda
             else if L ≤ h.sdaWait then
               { high := false, fell := max g.sda.fell ((now : Int) - ((h.sdaWait + h.lowBefore : Nat) : Int)) }
             else { g.sda with high := true }
      engine := { g.engine with
        busBusy := if line = .scl ∧ waited < 2 * L ∧ h.sdaWait < L then false else g.engine.busBusy } } := by
  rcases g.giveUp_cases line waited h gap L now with ⟨rfl, hg⟩ | ⟨rfl, hw, hg⟩ | ⟨rfl, hw, hs, hg⟩ | ⟨rfl, hw, hs, hg⟩ <;> rw [hg]
  · simp [LineLevel.lowSince, LineLevel.rise]
  · simp [LineLevel.lowSince, hw, not_lt.2 hw]
  · simp [LineLevel.lowSince, LineLevel.rise, not_le.2 hw, hs, not_lt.2 hs]
  · simp [Seg.ownStop, Seg.rise, Seg.withEngine, LineLevel.rise, not_le.2 hw, not_le.2 hs, hw, hs]

/-- The outcome of a wait that has reached the stretch limit (R59). -/
def heldOutcome (w : Work) (line : LineName) (h : HeldTransfer) : WorkOutcome :=
  if line = .sda then (firstNack true w.xfer.sent h.acks).getD .stretchTimeout else .stretchTimeout

theorem heldOutcome_eq {w : Work} {line : LineName} {h : HeldTransfer} {o : WorkOutcome}
    (ho : (o = .stretchTimeout ∧ (line = .scl ∨ ∀ i, i < w.xfer.sent.length → h.acks.getD i true = true))
      ∨ (line = .sda ∧ ∃ i, (w.xfer.sent[i]?.map Prod.snd) = some o ∧ h.acks.getD i true = false
          ∧ ∀ j, j < i → h.acks.getD j true = true)) : heldOutcome w line h = o := by
  unfold heldOutcome
  rcases ho with ⟨rfl, rfl | hall⟩ | ⟨rfl, hnack⟩
  · rfl
  · rw [(firstNack_eq_none_iff ..).2 hall]
    split <;> rfl
  · rw [(firstNack_eq_some_iff ..).2 hnack]
    rfl

/-- A wait that has reached the stretch limit is no outcome that stores bytes. -/
theorem heldOutcome_ne {w : Work} {line : LineName} {h : HeldTransfer} {o : WorkOutcome} (ho : heldOutcome w line h = o) :
    ¬ (o = .success ∨ o = .checkFail) := by
  subst ho
  unfold heldOutcome
  cases hnack : firstNack true w.xfer.sent h.acks with
  | none => split <;> simp
  | some e => rcases w.xfer.firstNack_mem hnack with rfl | rfl <;> split <;> simp

theorem State.workOnWire_of_stage {w : Work} (hstage : (s.engine x).stage = .onWire ∨ (s.engine x).stage = .stopGap)
    (hwork : (s.engine x).work = some w) : s.workOnWire x = some w := by
  rw [State.workOnWire, if_pos hstage, hwork]

theorem exec_stretchTimeout_eq {w : Work} {line : LineName} {waited : Nat} {h : HeldTransfer} (hr : s.inReset = false)
    (hwork : s.workOnWire x = some w) (hlimit : 100 * (s.engine x).latched.stretch ≤ waited) :
    exec (.stretchTimeout x line waited h) s = .next (finishWork x w (heldOutcome w line h) [] .idle
      (s.modSeg x (Seg.giveUp line waited h (s.waitsInGap x w h) (100 * (s.engine x).latched.stretch) s.elapsed))) := by
  change execStretchTimeout x line waited h s = _
  rw [execStretchTimeout, running_of_not_inReset hr, hwork]
  exact congrArg _ (if_pos hlimit)

theorem exec_stretchTimeout_of_lt {line : LineName} {waited : Nat} {h : HeldTransfer} (hr : s.inReset = false)
    (hlimit : waited < 100 * (s.engine x).latched.stretch) : exec (.stretchTimeout x line waited h) s = .next s := by
  change execStretchTimeout x line waited h s = _
  rw [execStretchTimeout, running_of_not_inReset hr]
  split
  · exact congrArg _ (if_neg (not_le.2 hlimit))
  · rfl

theorem State.waitsInGap_eq (w : Work) (h : HeldTransfer) : s.waitsInGap x w h =
    decide ((s.engine x).stage = .stopGap ∧ h.acks.length < w.xfer.sent.length) := by
  rw [State.waitsInGap, Bool.eq_iff_iff]
  simp

/-! ### Arbitration (R61) -/

theorem Seg.lostLast_eq {now : Nat} {g : Seg} (h : g.engine.retries = 2) :
    g.lostLast now = g.withEngine fun e => { e with retries := 3, waitSince := now } := by
  simp [Seg.lostLast, Seg.withEngine, h]

theorem State.modSeg_congr {f g : Seg → Seg} (h : f (s.seg x) = g (s.seg x)) : s.modSeg x f = s.modSeg x g :=
  congrArg (State.setSeg x · s) h

theorem Engine.poll_eq_some_iff (e : Engine) (p : PollWork) : e.poll = some p ↔ e.work = some (.poll p) := by
  unfold Engine.poll
  split <;> simp_all

theorem Engine.raw_eq_some_iff (e : Engine) (r : RawParams) : e.raw = some r ↔ e.work = some (.raw r) := by
  unfold Engine.raw
  split <;> simp_all

/-- Settles O48. -/
theorem stretchTimeoutAndArbitrationLoss : Obligations.StretchTimeoutAndArbitrationLoss := by
  intro s x hr hstage
  refine ⟨fun w line waited h o hwork hlimit ho L hL gap hgap u hu => ?held, fun line waited h => exec_stretchTimeout_of_lt hr,
    fun hsingle => ?single, fun hmulti hwork => ⟨fun hlt => ?again, fun hretries => ?last⟩⟩
  case held =>
    subst hL
    have hrun := exec_stretchTimeout_eq (line := line) (h := h) hr (State.workOnWire_of_stage hstage hwork) hlimit
    have hu : s.modSeg x (Seg.giveUp line waited h (s.waitsInGap x w h) (100 * (s.engine x).latched.stretch) s.elapsed) = u := by
      rw [hu, State.waitsInGap_eq, ← hgap]
      exact congrArg (fun f => s.modSeg x f) (funext fun g => Seg.giveUp_eq ..)
    rw [heldOutcome_eq ho, hu] at hrun
    have hcu : u.cu = s.cu := by rw [← hu]; simp
    refine ⟨fun p hp hd => ?_, fun r st r' hp hwait hst => ?_⟩ <;> subst hp
    · exact ⟨_, hrun, pollEnds_finishWork ((State.deferredBehind_congr (by rw [hcu]) p).trans hd)⟩
    · refine ⟨_, hrun, rawEnds_finishWork (by rw [hcu]; exact hwait) hst fun hsuccess => ?_⟩
      exact absurd hsuccess (heldOutcome_ne (heldOutcome_eq ho))
  case single =>
    change execArbitrationLoss x s = _
    rw [execArbitrationLoss, running_of_not_inReset hr]
    split
    · rw [hsingle]; rfl
    · rfl
  all_goals
    obtain ⟨w, hw⟩ := Option.ne_none_iff_exists'.1 hwork
    have hrun := exec_arbitrationLoss_eq hr (State.workOnWire_of_stage hstage hw) hmulti
  case again =>
    rw [loseArbitration_of_lt hlt] at hrun
    obtain ⟨hframe, hother, hseg⟩ := s.modSeg_event x (Seg.lostOnce s.elapsed)
    exact ⟨_, hrun, hframe, hother, hseg⟩
  case last =>
    have hlast : s.modSeg x (Seg.lostLast s.elapsed)
        = s.modSeg x fun g => g.withEngine fun e => { e with retries := 3, waitSince := s.elapsed } :=
      State.modSeg_congr (Seg.lostLast_eq hretries)
    rw [loseArbitration_of_le hretries.ge, hlast] at hrun
    refine ⟨fun p hp hd => ?_, fun r st hp hwait hst => ?_⟩
    · cases hw.symm.trans ((Engine.poll_eq_some_iff _ p).1 hp)
      exact ⟨_, _, hrun, rfl, pollEnds_finishWork ((State.deferredBehind_congr (by simp) p).trans hd)⟩
    · cases hw.symm.trans ((Engine.raw_eq_some_iff _ r).1 hp)
      exact ⟨_, _, hrun, rfl, rawEnds_finishWork (r' := r) (by simpa using hwait) hst (by simp)⟩

end

end Sys2Proof.Machine
end

section
/-! PROOFS. A bus clear that fails (R63, R65, R67). -/

namespace Sys2Proof.Machine

/-! ### Work that ends with BUS_STUCK (R65) -/

section
variable {s : State} {x y : Segment} {p : PollWork} {w : Option Work} {data : List Byte} {n : EntryNo} {k : TargetNo}

theorem State.judgement_busStuck : s.judgement p .busStuck = (s.target p.target, .none) :=
  Target.judge_of_not_counted (.inr rfl)

theorem State.pollResult_busStuck : s.pollResult p .busStuck data =
    { entry := if (s.entry p.entry).d.bandEnable then { s.entry p.entry with run := none } else s.entry p.entry
      records := [], transition := false } := by
  rw [State.pollResult, Entry.process_of_ne_success _ _ _ _ (by simp)]
  rfl

theorem State.pollRecords_busStuck : s.pollRecords p .busStuck data = [] := by
  rw [State.pollRecords, State.judgement_busStuck, State.pollResult_busStuck]
  rfl

/-- The work an engine holds is the poll of entry n. -/
def polls (w : Option Work) (n : EntryNo) : Prop := ∃ p, w = some (.poll p) ∧ p.entry = n

/-- No load is deferred behind the work an engine holds. -/
def State.noneDeferred (s : State) (w : Option Work) : Prop := ∀ p, w = some (.poll p) → s.deferredBehind p = false

theorem endStuckWork_target (hd : s.noneDeferred w) : (endStuckWork x w s).target k = s.target k := by
  cases w with
  | none => exact releaseEngine_target ..
  | some w =>
    cases w with
    | raw r => exact (State.target_congr (finishRaw_targets r _ _ _) k).trans (releaseEngine_target ..)
    | poll p =>
      rw [endStuckWork, finishWork_poll_target .faulted (hd p rfl), State.judgement_busStuck]
      split
      · next h => rw [h]
      · rfl

theorem endStuckWork_entry (hd : s.noneDeferred w) (polled : Bool) (hpolled : polled = true ↔ polls w n) :
    (endStuckWork x w s).entry n = { s.entry n with
      run := if polled = true ∧ (s.entry n).d.bandEnable = true then none else (s.entry n).run
      inFlight := if polled then false else (s.entry n).inFlight } := by
  have hnot (h : ¬ polls w n) : polled = false := Bool.eq_false_iff.2 fun hp => h (hpolled.1 hp)
  cases w with
  | none =>
    rw [hnot (by rintro ⟨p, h, -⟩; cases h)]
    exact (releaseEngine_entry ..).trans (by simp)
  | some w =>
    cases w with
    | raw r =>
      rw [hnot (by rintro ⟨p, h, -⟩; cases h)]
      exact ((State.entry_congr (finishRaw_entries r _ _ _) n).trans (releaseEngine_entry ..)).trans (by simp)
    | poll p =>
      rw [endStuckWork, finishWork_poll_entry .faulted (hd p rfl), State.judgement_busStuck, State.storedEntry,
        State.pollResult_busStuck]
      by_cases hn : n = p.entry
      · rw [hpolled.2 ⟨p, rfl, hn.symm⟩, hn]
        by_cases hb : (s.entry p.entry).d.bandEnable = true <;> simp [hb]
      · rw [hnot (by rintro ⟨q, h, hq⟩; cases h; exact hn hq.symm)]
        simp [hn]

theorem endStuckWork_seg (hd : s.noneDeferred w) : (endStuckWork x w s).seg y = { s.seg y with
    engine := if y = x then { s.engine y with state := .faulted, work := none, stage := .none, received := [] }
              else s.engine y } := by
  have hreleased : (releaseEngine x .faulted s).seg y = { s.seg y with
      engine := if y = x then { s.engine y with state := .faulted, work := none, stage := .none, received := [] }
                else s.engine y } := by
    rw [releaseEngine_seg]
    split <;> rfl
  cases w with
  | none => exact hreleased
  | some w =>
    cases w with
    | raw r => exact (State.seg_congr (finishRaw_segA r _ _ _) (finishRaw_segB r _ _ _) y).trans hreleased
    | poll p => rw [endStuckWork, finishWork_poll_seg .faulted (hd p rfl), State.judgement_busStuck]; simp

/-- A raw transfer that a stuck bus ends completes its command, if that is still the one in progress. -/
theorem finishRaw_busStuck_cases (r : RawParams) (s : State) :
    (∃ st r', s.cu.wait = some (.raw st r')
        ∧ finishRaw r .busStuck data s = complete (if st = .aborted then 0x08#8 else 0x15#8) 0 s)
      ∨ finishRaw r .busStuck data s = s := by
  unfold finishRaw
  split
  · next r' h => exact .inl ⟨_, r', h, rfl⟩
  · next st r' hst h => exact .inl ⟨st, r', h, by rw [if_neg (by simp), if_neg hst]; rfl⟩
  · exact .inr rfl

/-- Stuck work ends with no record of its own, and moves no flag but CMD. -/
theorem endStuckWork_frame (hd : s.noneDeferred w) : endStuckWork x w s =
    { s with
      entries := (endStuckWork x w s).entries, segA := (endStuckWork x w s).segA, segB := (endStuckWork x w s).segB
      cu := (endStuckWork x w s).cu
      sticky := { s.sticky with cmd := (endStuckWork x w s).sticky.cmd } } := by
  refine State.ext_tables (fun n => rfl) (fun k => endStuckWork_target hd) (fun y => by cases y <;> rfl) ?_
  cases w with
  | none => apply State.ext <;> simp [endStuckWork]
  | some w =>
    cases w with
    | raw r =>
      change finishRaw r .busStuck [] (releaseEngine x .faulted s) = _
      have heq : endStuckWork x (some (.raw r)) s = finishRaw r .busStuck [] (releaseEngine x .faulted s) := rfl
      rw [heq]
      rcases finishRaw_busStuck_cases (data := []) r (releaseEngine x .faulted s) with ⟨st, r', -, hr⟩ | hr <;> rw [hr] <;>
        apply State.ext <;> simp [complete]
    | poll p =>
      rw [endStuckWork, finishWork_poll_frame .faulted (hd p rfl), State.judgement_busStuck, State.pollResult_busStuck,
        State.pollRecords_busStuck]
      simp [Queue.admitGroup]

/-! ### The rest of the event -/

@[simp] theorem withdrawRaw_entry : (withdrawRaw x s).entry n = s.entry n := State.entry_congr (by simp) n
@[simp] theorem withdrawRaw_target : (withdrawRaw x s).target k = s.target k := State.target_congr (by simp) k

theorem withdrawRaw_of_pending (h : (s.seg x).rawPending = true) :
    withdrawRaw x s = complete 0x15#8 0 (s.modSeg x fun g => { g with rawPending := false }) := if_pos h

theorem withdrawRaw_of_not_pending (h : (s.seg x).rawPending = false) : withdrawRaw x s = s := if_neg (by simp [h])

@[simp] theorem withdrawRaw_seg : (withdrawRaw x s).seg y =
    { s.seg y with rawPending := if y = x then false else (s.seg y).rawPending } := by
  cases h : (s.seg x).rawPending with
  | true =>
    rw [withdrawRaw_of_pending h, complete_seg, State.seg_modSeg]
    split <;> rfl
  | false =>
    rw [withdrawRaw_of_not_pending h]
    split
    · next hy => rw [hy, ← h]
    · rfl

theorem withdrawRaw_frame' : withdrawRaw x s =
    { s with segA := (withdrawRaw x s).segA, segB := (withdrawRaw x s).segB, cu := (withdrawRaw x s).cu
             sticky := { s.sticky with cmd := (withdrawRaw x s).sticky.cmd } } := by
  cases h : (s.seg x).rawPending with
  | true => rw [withdrawRaw_of_pending h]; apply State.ext <;> simp [complete]
  | false => rw [withdrawRaw_of_not_pending h]

theorem endDrain_cases (s : State) : (s.collector = .stopping ∧ s.drained = true ∧ endDrain s = enterStopped s)
    ∨ (¬ (s.collector = .stopping ∧ s.drained = true) ∧ endDrain s = s) := by
  by_cases h : s.collector = .stopping ∧ s.drained = true
  · exact .inl ⟨h.1, h.2, if_pos h⟩
  · exact .inr ⟨h, if_neg h⟩

@[simp] theorem endDrain_entry : (endDrain s).entry n = s.entry n := by
  rcases endDrain_cases s with ⟨-, -, h⟩ | ⟨-, h⟩ <;> rw [h]
  exact enterStopped_entry ..

@[simp] theorem endDrain_target : (endDrain s).target k = s.target k := by
  rcases endDrain_cases s with ⟨-, -, h⟩ | ⟨-, h⟩ <;> rw [h]
  exact enterStopped_target ..

@[simp] theorem endDrain_seg : (endDrain s).seg y = s.seg y := by
  rcases endDrain_cases s with ⟨-, -, h⟩ | ⟨-, h⟩ <;> rw [h]
  exact enterStopped_seg ..

theorem endDrain_drained : (endDrain s).drained = s.drained :=
  State.drained_congr (fun x => by rw [State.engine, endDrain_seg]; rfl) fun n => by simp [State.entrySegment]

theorem endDrain_collector : (endDrain s).collector =
    if s.collector = .stopping ∧ (endDrain s).drained = true then .stopped else s.collector := by
  rw [endDrain_drained]
  rcases endDrain_cases s with ⟨hc, hd, h⟩ | ⟨hno, h⟩
  · rw [h, if_pos ⟨hc, hd⟩, enterStopped_collector]
  · rw [h, if_neg hno]

theorem endDrain_frame : endDrain s =
    { s with cu := (endDrain s).cu, collector := (endDrain s).collector
             sticky := { s.sticky with cmd := (endDrain s).sticky.cmd } } := by
  rcases endDrain_cases s with ⟨-, -, h⟩ | ⟨-, h⟩ <;> rw [h]
  unfold enterStopped
  dsimp only
  split <;> rfl

/-! ### The segment is FAULTED -/

variable {g : Seg → Seg}

/-- The state in which the stuck work ends: the lines are noted, and the lists are empty. -/
def State.emptied (s : State) (x : Segment) (g : Seg → Seg) : State := emptyLists x (s.modSeg x g)

theorem faultSegment_eq : faultSegment x g s = setSegerr (admitRecords [busStuckRecord x] (withdrawRaw x
    (endStuckWork x (s.engine x).work (s.emptied x g)))) := rfl

theorem State.noneDeferred_emptied (hd : s.noneDeferred w) : (s.emptied x g).noneDeferred w := fun p hp =>
  (State.deferredBehind_congr (by simp [State.emptied]) p).trans (hd p hp)

theorem State.emptied_entry : (s.emptied x g).entry n =
    { s.entry n with due := if s.entrySegment n = x then none else (s.entry n).due } := by
  have hsegment : (s.modSeg x g).entrySegment n = s.entrySegment n := by simp [State.entrySegment]
  rw [State.emptied, emptyLists_entry, hsegment, State.entry_modSeg]
  by_cases h : s.entrySegment n = x <;> simp [h]

theorem State.emptied_seg : (s.emptied x g).seg y = if y = x then { g (s.seg x) with oneShot := [] } else s.seg y := by
  rw [State.emptied, emptyLists_seg, State.seg_modSeg]
  split
  · next h => rw [h]
  · rfl

theorem faultSegment_target (hd : s.noneDeferred (s.engine x).work) : (faultSegment x g s).target k = s.target k := by
  rw [faultSegment_eq, setSegerr_target, admitRecords_target, withdrawRaw_target,
    endStuckWork_target (State.noneDeferred_emptied hd)]
  simp [State.emptied]

theorem faultSegment_entry (hd : s.noneDeferred (s.engine x).work) (polled : Bool)
    (hpolled : polled = true ↔ polls (s.engine x).work n) : (faultSegment x g s).entry n = { s.entry n with
      due := if s.entrySegment n = x then none else (s.entry n).due
      run := if polled = true ∧ (s.entry n).d.bandEnable = true then none else (s.entry n).run
      inFlight := if polled then false else (s.entry n).inFlight } := by
  rw [faultSegment_eq, setSegerr_entry, admitRecords_entry, withdrawRaw_entry,
    endStuckWork_entry (State.noneDeferred_emptied hd) polled hpolled, State.emptied_entry]

theorem faultSegment_seg (hd : s.noneDeferred (s.engine x).work) : (faultSegment x g s).seg y =
    if y = x then { g (s.seg x) with
      oneShot := [], rawPending := false
      engine := { (g (s.seg x)).engine with state := .faulted, work := none, stage := .none, received := [] } }
    else s.seg y := by
  rw [faultSegment_eq, setSegerr_seg, admitRecords_seg, withdrawRaw_seg, endStuckWork_seg (State.noneDeferred_emptied hd),
    State.engine, State.emptied_seg]
  split <;> rfl

theorem faultSegment_frame (hd : s.noneDeferred (s.engine x).work) : faultSegment x g s =
    { s with
      cu := (faultSegment x g s).cu, entries := (faultSegment x g s).entries, segA := (faultSegment x g s).segA
      segB := (faultSegment x g s).segB
      queue := (s.queue.admitGroup s.ctrl.evict s.port.pinned s.stamp [busStuckRecord x]).1
      sticky := { s.sticky with
        segerr := true
        loss := s.sticky.loss || (s.queue.admitGroup s.ctrl.evict s.port.pinned s.stamp [busStuckRecord x]).2
        cmd := (faultSegment x g s).sticky.cmd } } := by
  have hemptied : s.emptied x g =
      { s with entries := (s.emptied x g).entries, segA := (s.emptied x g).segA, segB := (s.emptied x g).segB } := by
    apply State.ext <;> simp [State.emptied]
  have hstuck := endStuckWork_frame (x := x) (State.noneDeferred_emptied (x := x) (g := g) hd)
  have hwithdrawn := withdrawRaw_frame' (x := x) (s := endStuckWork x (s.engine x).work (s.emptied x g))
  rw [faultSegment_eq]
  generalize withdrawRaw x _ = u2 at hwithdrawn ⊢
  generalize endStuckWork x _ _ = u1 at hstuck hwithdrawn
  generalize s.emptied x g = u0 at hstuck hemptied
  rw [hwithdrawn, hstuck, hemptied]
  rfl

/-! ### The command in progress -/

/-- The Command Unit and the CMD flag are the same in two states. -/
def State.sameCommand (s t : State) : Prop := t.cu = s.cu ∧ t.sticky.cmd = s.sticky.cmd

theorem endStuckWork_sameCommand (hd : s.noneDeferred w) (hraw : ∀ r, w ≠ some (.raw r)) : s.sameCommand (endStuckWork x w s) := by
  cases w with
  | none => exact ⟨by simp [endStuckWork], by simp [endStuckWork]⟩
  | some w =>
    cases w with
    | raw r => exact absurd rfl (hraw r)
    | poll p => rw [endStuckWork, finishWork_poll_frame .faulted (hd p rfl)]; exact ⟨rfl, rfl⟩

theorem endStuckWork_raw {r r' : RawParams} {st : RawStage} (hwait : s.cu.wait = some (.raw st r')) :
    s.endsAs (endStuckWork x (some (.raw r)) s) (if st = .aborted then 0x08#8 else 0x15#8) := by
  have hwait' : (releaseEngine x .faulted s).cu.wait = some (.raw st r') := by simpa using hwait
  have hstuck : endStuckWork x (some (.raw r)) s
      = complete (if st = .aborted then 0x08#8 else 0x15#8) 0 (releaseEngine x .faulted s) := by
    change finishRaw r .busStuck [] (releaseEngine x .faulted s) = _
    cases st with
    | aborted => exact finishRaw_of_aborted hwait'
    | pending => rw [finishRaw, hwait']; rfl
    | onSegment => rw [finishRaw, hwait']; rfl
  rw [hstuck]
  exact ⟨by simp [complete], rfl⟩

theorem State.emptied_sameCommand : s.sameCommand (s.emptied x g) := ⟨by simp [State.emptied], by simp [State.emptied]⟩

theorem State.emptied_rawPending (hd : s.noneDeferred w) (hg : (g (s.seg x)).rawPending = (s.seg x).rawPending) :
    ((endStuckWork x w (s.emptied x g)).seg x).rawPending = (s.seg x).rawPending := by
  rw [endStuckWork_seg (State.noneDeferred_emptied hd), State.emptied_seg, if_pos rfl]
  exact hg

section
variable (hd : s.noneDeferred (s.engine x).work) (hg : (g (s.seg x)).rawPending = (s.seg x).rawPending)
include hd hg

theorem faultSegment_sameCommand (hpending : (s.seg x).rawPending = false) (hraw : (s.engine x).raw = none) :
    s.sameCommand (faultSegment x g s) := by
  have hstuck := endStuckWork_sameCommand (x := x) (State.noneDeferred_emptied (x := x) (g := g) hd) fun r hr =>
    absurd hraw (by simp [(Engine.raw_eq_some_iff _ r).2 hr])
  obtain ⟨hcu, hcmd⟩ := State.emptied_sameCommand (s := s) (x := x) (g := g)
  rw [faultSegment_eq, withdrawRaw_of_not_pending ((State.emptied_rawPending hd hg).trans hpending)]
  exact ⟨hstuck.1.trans hcu, hstuck.2.trans hcmd⟩

theorem faultSegment_ends_withdrawn (hpending : (s.seg x).rawPending = true) (hraw : (s.engine x).raw = none) :
    s.endsAs (faultSegment x g s) 0x15#8 := by
  have hstuck := endStuckWork_sameCommand (x := x) (State.noneDeferred_emptied (x := x) (g := g) hd) fun r hr =>
    absurd hraw (by simp [(Engine.raw_eq_some_iff _ r).2 hr])
  have hcu := hstuck.1.trans (State.emptied_sameCommand (s := s) (x := x) (g := g)).1
  rw [faultSegment_eq, withdrawRaw_of_pending ((State.emptied_rawPending hd hg).trans hpending)]
  refine ⟨?_, rfl⟩
  rw [← hcu]
  simp [complete]

theorem faultSegment_ends_raw {r r' : RawParams} {st : RawStage} (hpending : (s.seg x).rawPending = false)
    (hraw : (s.engine x).raw = some r) (hwait : s.cu.wait = some (.raw st r')) :
    s.endsAs (faultSegment x g s) (if st = .aborted then 0x08#8 else 0x15#8) := by
  obtain ⟨hcu, -⟩ := State.emptied_sameCommand (s := s) (x := x) (g := g)
  have hwork := (Engine.raw_eq_some_iff _ r).1 hraw
  have hstuck := endStuckWork_raw (x := x) (r := r) (hcu ▸ hwait : (s.emptied x g).cu.wait = some (.raw st r'))
  rw [faultSegment_eq, withdrawRaw_of_not_pending ((State.emptied_rawPending hd hg).trans hpending), hwork]
  unfold State.endsAs at hstuck ⊢
  rw [hcu] at hstuck
  exact hstuck

end

theorem endDrain_of_ne (h : s.collector ≠ .stopping) : endDrain s = s := if_neg fun hs => h hs.1

/-! ### The lines (R50, R63) -/

variable {r : ClearRun} {left : LeftLow} {pulses : Nat}

theorem State.clearFails_of {L : Nat} (hL : L = 100 * (s.engine r.segment).latched.stretch) (hpulses : pulsesGiven r = pulses)
    (h : ((∀ i, i ≤ pulses → r.sclWaits.getD i 0 < L) ∧ (left.scl.isSome = true ∨ left.sda.isSome = true))
      ∨ ∃ i, i ≤ pulses ∧ L ≤ r.sclWaits.getD i 0 ∧ (∀ j, j < i → r.sclWaits.getD j 0 < L)
          ∧ ∃ k ∈ left.scl, r.sclWaits.getD i 0 ≤ k) : s.clearFails r left = true := by
  subst hL hpulses
  unfold State.clearFails
  rcases h with ⟨hwaits, hleft⟩ | ⟨i, hi, hheld, hfirst, k, hk, hle⟩
  · have hnone := (heldWait_eq_none_iff r _).2 hwaits
    change (match heldWait r (100 * (s.engine r.segment).latched.stretch) with
      | some wait => left.scl.any fun k => decide (wait ≤ k) | none => left.scl.isSome || left.sda.isSome) = true
    rw [hnone]
    simpa using hleft
  · have hsome := heldWait_eq_some r _ hi hheld hfirst
    change (match heldWait r (100 * (s.engine r.segment).latched.stretch) with
      | some wait => left.scl.any fun k => decide (wait ≤ k) | none => left.scl.isSome || left.sda.isSome) = true
    rw [hsome, Option.mem_def.1 hk]
    simpa using hle

theorem exec_busClearFail_eq (hr : s.inReset = false) (hstate : (s.engine r.segment).state = .clearing)
    (hfails : s.clearFails r left = true) : exec (.busClearFail r left) s = .next (endDrain (faultSegment r.segment
      (Seg.clearFailed r left (100 * (s.engine r.segment).latched.stretch) s.elapsed) s)) := by
  change execBusClearFail r left s = _
  rw [execBusClearFail_eq, running_of_not_inReset hr, hstate, hfails]
  rfl

theorem sdaRose_iff (L : Nat) (hpulses : pulsesGiven r = pulses) :
    sdaRose r L = true ↔ pulses < 9 ∧ ∀ i, i < pulses → r.sclWaits.getD i 0 < L := by
  rw [sdaRose, hpulses, Bool.and_eq_true, decide_eq_true_iff, List.all_eq_true]
  simp [Config.clearPulses]

/-- Settles O47. -/
theorem busClearFailureFaultsTheSegment : Obligations.BusClearFailureFaultsTheSegment := by
  intro s x r left pulses hr hx hstate hdeferred h9 hlow hhigh L hL hheld q hq
  subst hx
  have hpulses := pulsesGiven_eq r pulses h9 hlow hhigh
  have hd : s.noneDeferred (s.engine r.segment).work := fun p hp => hdeferred p ((Engine.poll_eq_some_iff _ p).2 hp)
  have hrun := exec_busClearFail_eq hr hstate (State.clearFails_of hL hpulses hheld)
  rw [← hL] at hrun
  set g := Seg.clearFailed r left L s.elapsed with hgdef
  have hg : (g (s.seg r.segment)).rawPending = (s.seg r.segment).rawPending := rfl
  have hframe := faultSegment_frame (x := r.segment) (g := g) hd
  have hcollector : (faultSegment r.segment g s).collector = s.collector := by rw [hframe]
  refine ⟨_, hrun, ?frame, fun y hy => ?other, ?seg, fun n polled hpolled => ?entry, ?collector, ?raw, ?withdrawn, ?neither, ?stop⟩
  case frame =>
    have hdrain := endDrain_frame (s := faultSegment r.segment g s)
    generalize endDrain _ = t at hdrain ⊢
    generalize faultSegment r.segment g s = u at hframe hdrain
    rw [hdrain, hframe, hq]
    rfl
  case other => rw [endDrain_seg, faultSegment_seg hd, if_neg hy]
  case seg =>
    rw [endDrain_seg, faultSegment_seg hd, if_pos rfl]
    dsimp only
    congr 1
    · change (s.seg r.segment).scl.clearFailed left.scl (sclRose r L) (s.engine r.segment).waitSince s.elapsed = _
      cases left.scl with
      | none => rfl
      | some k => simp only [LineLevel.clearFailed_some, sclRose, decide_eq_true_eq, max_comm]
    · change (s.seg r.segment).sda.clearFailed left.sda (sdaRose r L) (s.engine r.segment).waitSince s.elapsed = _
      cases left.sda with
      | none => rfl
      | some k => simp only [LineLevel.clearFailed_some, sdaRose_iff L hpulses, max_comm]
  case entry =>
    rw [endDrain_entry, faultSegment_entry hd polled]
    rw [hpolled, decide_eq_true_iff]
    simp [polls, Engine.poll_eq_some_iff]
  case collector => rw [endDrain_collector, hcollector]
  case raw =>
    intro hc hpending r0 st r1 hraw hwait
    rw [endDrain_of_ne (hcollector ▸ hc)]
    exact faultSegment_ends_raw hd hg hpending hraw hwait
  case withdrawn =>
    intro hc hpending hraw
    rw [endDrain_of_ne (hcollector ▸ hc)]
    exact faultSegment_ends_withdrawn hd hg hpending hraw
  case neither =>
    intro hc hpending hraw
    rw [endDrain_of_ne (hcollector ▸ hc)]
    exact faultSegment_sameCommand hd hg hpending hraw
  case stop =>
    intro hc hwait hpending hraw
    obtain ⟨hcu, hcmd⟩ := faultSegment_sameCommand hd hg hpending hraw
    rcases endDrain_cases (faultSegment r.segment g s) with ⟨-, -, h⟩ | ⟨-, h⟩ <;> rw [h]
    · rw [if_pos (enterStopped_collector _), enterStopped_of_stop (hcu ▸ hwait)]
      exact ⟨by rw [← hcu]; rfl, rfl⟩
    · rw [if_neg (by rw [hcollector, hc]; simp)]
      exact ⟨hcu, hcmd⟩

end

end Sys2Proof.Machine
end

section
/-! PROOFS. A load deferred behind a poll, applied at the end of its processing (R151, R152, R154). -/

namespace Sys2Proof.Machine

/-! ### What the Command Unit waits for does not matter to the processing -/

section
variable (s : State) (w v : Option Wait) (x y : Segment) (p : PollWork) (o : WorkOutcome) (data : List Byte) (n : EntryNo)
  (k : TargetNo) (f g : Seg → Seg) (st : EngineState)

/-- The state with another wait of the Command Unit. -/
def State.withWait : State := { s with cu := { s.cu with wait := w } }

@[simp] theorem State.withWait_entry : (s.withWait w).entry n = s.entry n := rfl
@[simp] theorem State.withWait_target : (s.withWait w).target k = s.target k := rfl
@[simp] theorem State.withWait_seg : (s.withWait w).seg y = s.seg y := by cases y <;> rfl
@[simp] theorem State.withWait_engine : (s.withWait w).engine y = s.engine y := by cases y <;> rfl
theorem State.withWait_self : s.withWait s.cu.wait = s := rfl

theorem State.modSeg_withWait : (s.withWait w).modSeg x f = (s.modSeg x f).withWait w := by cases x <;> rfl

theorem releaseEngine_withWait : releaseEngine x st (s.withWait w) = (releaseEngine x st s).withWait w :=
  State.modSeg_withWait s w x _

theorem State.emptied_withWait : (s.withWait w).emptied x g = (s.emptied x g).withWait w := by
  have hsegment (n : EntryNo) : (s.withWait w).entrySegment n = s.entrySegment n := rfl
  refine State.ext_tables (fun n => ?_) (fun k => ?_) (fun y => ?_) ?_
  · simp only [State.withWait_entry, State.emptied_entry, hsegment]
  · simp [State.emptied]
  · simp only [State.withWait_seg, State.emptied_seg]
  · apply State.ext <;> simp [State.emptied, State.withWait]

theorem processCompletion_withWait :
    processCompletion p o data (s.withWait w) = (processCompletion p o data s).withWait w := by
  have hdropped (j : Target) : (s.withWait w).droppedRecords p.target j = s.droppedRecords p.target j := by
    simp [State.droppedRecords, State.requestsOf]
  have hrecords : (s.withWait w).pollRecords p o data = s.pollRecords p o data := by
    unfold State.pollRecords
    rw [hdropped]
    rfl
  have hentry (n : EntryNo) :
      (processCompletion p o data (s.withWait w)).entry n = ((processCompletion p o data s).withWait w).entry n := by
    rw [State.withWait_entry, processCompletion_entry, processCompletion_entry]
    rfl
  have hlaw : (processCompletion p o data (s.withWait w)).limitLaw = (processCompletion p o data s).limitLaw :=
    State.limitLaw_congr fun n => by rw [hentry, State.withWait_entry]
  refine State.ext_tables hentry (fun k => ?_) (fun y => ?_) ?_
  · rw [State.withWait_target, processCompletion_target, processCompletion_target]
    rfl
  · rw [State.withWait_seg, processCompletion_seg, processCompletion_seg, State.withWait_seg]
    rfl
  · have hqueue : (processCompletion p o data (s.withWait w)).queue = (processCompletion p o data s).queue := by
      rw [processCompletion_queue, processCompletion_queue, hrecords]; rfl
    have hsticky : (processCompletion p o data (s.withWait w)).sticky = (processCompletion p o data s).sticky := by
      rw [processCompletion_sticky, processCompletion_sticky, hrecords]; rfl
    have hband : (processCompletion p o data (s.withWait w)).bandPending = (processCompletion p o data s).bandPending := by
      rw [processCompletion_bandPending, processCompletion_bandPending]; rfl
    have hlimit : (processCompletion p o data (s.withWait w)).limit = (processCompletion p o data s).limit := by
      rw [processCompletion_limit, processCompletion_limit, hlaw]; rfl
    have hframe := processCompletion_frame p o data (s.withWait w)
    have hframe' := processCompletion_frame p o data s
    generalize processCompletion p o data (s.withWait w) = t at *
    generalize processCompletion p o data s = u at *
    conv_lhs => rw [hframe]
    conv_rhs => rw [hframe']
    rw [hqueue, hsticky, hband, hlimit]
    rfl

/-! ### The load that is applied (R152) -/

/-- A deferred load takes effect; what else the Command Unit may wait for is no load. -/
def applyDeferred (w : Wait) (s : State) : State :=
  match w with
  | .entryLoad n c => applyEntryLoad n c s
  | .targetLoad t d => applyTargetLoad t d s
  | .start => s
  | .stop => s
  | .raw _ _ => s

/-- The load that is waited for is deferred behind poll p. -/
def Wait.behind (p : PollWork) : Wait → Prop
  | .entryLoad n _ => n = p.entry
  | .targetLoad t _ => t = p.target
  | .start => False
  | .stop => False
  | .raw _ _ => False

theorem State.deferredBehind_iff : s.deferredBehind p = true ↔ ∃ w, s.cu.wait = some w ∧ w.behind p := by
  unfold State.deferredBehind
  cases s.cu.wait with
  | none => simp
  | some w => cases w <;> simp [Wait.behind]

theorem clearInFlight_entrySegment (m : EntryNo) : (clearInFlight m s).entrySegment n = s.entrySegment n := by
  unfold State.entrySegment
  rw [clearInFlight_entry, clearInFlight_target]
  split <;> rfl

theorem applyEntryLoad_bandPending' (c : Option EntryDef) :
    (applyEntryLoad n c s).bandPending = s.bandPending &&& ~~~(1#32 <<< n.val) := by
  simp [applyEntryLoad, clearBandPending]

/-- A load of the entry whose poll has ended, before or after its in-flight flag is cleared. -/
theorem clearInFlight_applyEntryLoad (c : Option EntryDef) :
    completeOk (clearInFlight n (applyEntryLoad n c (s.withWait w))) = completeOk (applyEntryLoad n c (clearInFlight n (s.withWait v))) := by
  have hentry (m : EntryNo) : (completeOk (clearInFlight n (applyEntryLoad n c (s.withWait w)))).entry m
      = (completeOk (applyEntryLoad n c (clearInFlight n (s.withWait v)))).entry m := by
    simp only [completeOk_entry, clearInFlight_entry, applyEntryLoad_entry, State.withWait_entry]
    by_cases hm : m = n
    · simp only [hm, if_true]; rfl
    · simp only [hm, if_false]
  have hlimit : (applyEntryLoad n c (s.withWait w)).limit = (applyEntryLoad n c (clearInFlight n (s.withWait v))).limit := by
    rw [applyEntryLoad_limitLawHolds n c (s.withWait w), applyEntryLoad_limitLawHolds n c (clearInFlight n (s.withWait v))]
    refine State.limitLaw_congr fun m => ?_
    rw [← completeOk_entry (s := applyEntryLoad n c (clearInFlight n (s.withWait v))), ← hentry, completeOk_entry, clearInFlight_entry]
    split <;> rfl
  refine State.ext_tables hentry (fun k => by simp) (fun y => ?_) ?_
  · simp only [completeOk_seg, clearInFlight_seg, applyEntryLoad_seg, clearInFlight_entrySegment]
    rfl
  · apply State.ext <;> simp [completeOk, complete, State.withWait]
    · simp only [applyEntryLoad_bandPending']
      simp
    · exact hlimit

theorem clearInFlight_d (m : EntryNo) : ((clearInFlight m s).entry n).d = (s.entry n).d := by
  rw [clearInFlight_entry]
  split <;> rfl

theorem Entry.clear_delist (b : Prop) [Decidable b] (e : Entry) :
    ({ (if b then { e with due := none } else e) with inFlight := false } : Entry)
      = if b then { e with inFlight := false, due := none } else { e with inFlight := false } := by
  split <;> rfl

/-- As `clearInFlight_applyEntryLoad`, for a load of the polled target. -/
theorem clearInFlight_applyTargetLoad (d : TargetDef) :
    completeOk (clearInFlight n (applyTargetLoad k d (s.withWait w)))
      = completeOk (applyTargetLoad k d (clearInFlight n (s.withWait v))) := by
  refine State.ext_tables (fun m => ?_) (fun j => by simp) (fun y => ?_) ?_
  · simp only [completeOk_entry, clearInFlight_entry, applyTargetLoad_entry, State.withWait_entry]
    by_cases hm : m = n
    · subst hm
      simp only [if_true]
      exact (Entry.clear_delist _ _).trans (if_congr Iff.rfl rfl rfl)
    · simp only [hm, if_false]
      exact if_congr Iff.rfl rfl rfl
  · simp only [completeOk_seg, clearInFlight_seg, applyTargetLoad_seg, clearInFlight_d]
    rfl
  · apply State.ext <;> simp [completeOk, complete, State.withWait]

/-- The end of the processing of a poll, with a load deferred behind it: the poll's end without one, then the load. -/
theorem endProcessing_deferred {w : Wait} (hw : w.behind p) : endProcessing p (s.withWait (some w)) =
    completeOk (applyDeferred w (endProcessing p (s.withWait none))) := by
  have hnone : endProcessing p (s.withWait none) = clearInFlight p.entry (s.withWait none) := rfl
  rw [hnone]
  cases w with
  | start | stop | raw => exact hw.elim
  | entryLoad n c =>
    change n = p.entry at hw
    subst hw
    have heq : endProcessing p (s.withWait (some (.entryLoad p.entry c)))
        = completeOk (clearInFlight p.entry (applyEntryLoad p.entry c (s.withWait (some (.entryLoad p.entry c))))) := if_pos rfl
    exact heq.trans (clearInFlight_applyEntryLoad ..)
  | targetLoad t d =>
    change t = p.target at hw
    subst hw
    have heq : endProcessing p (s.withWait (some (.targetLoad p.target d)))
        = completeOk (clearInFlight p.entry (applyTargetLoad p.target d (s.withWait (some (.targetLoad p.target d))))) := if_pos rfl
    exact heq.trans (clearInFlight_applyTargetLoad ..)

theorem finishWork_deferred {w : Wait} (hw : w.behind p) : finishWork x (.poll p) o data st (s.withWait (some w)) =
    completeOk (applyDeferred w (finishWork x (.poll p) o data st (s.withWait none))) := by
  change endProcessing p (processCompletion p o data (releaseEngine x st (s.withWait (some w)))) =
    completeOk (applyDeferred w (endProcessing p (processCompletion p o data (releaseEngine x st (s.withWait none)))))
  rw [releaseEngine_withWait, releaseEngine_withWait, processCompletion_withWait, processCompletion_withWait]
  exact endProcessing_deferred _ p hw

/-! ### What follows a stuck poll's end commutes with the load -/

section
variable (w : Wait) (bs : List Body)

@[simp] theorem applyDeferred_collector : (applyDeferred w s).collector = s.collector := by cases w <;> simp [applyDeferred]
@[simp] theorem applyDeferred_cu : (applyDeferred w s).cu = s.cu := by cases w <;> simp [applyDeferred]

theorem applyDeferred_inFlight : ((applyDeferred w s).entry n).inFlight = (s.entry n).inFlight := by
  cases w with
  | entryLoad m c => rw [applyDeferred, applyEntryLoad_entry]; split <;> rfl
  | targetLoad t d => rw [applyDeferred, applyTargetLoad_entry]; split <;> rfl
  | start | stop | raw => rfl

/-- A load touches no more of a segment than its One-Shot List. -/
theorem applyDeferred_seg : (applyDeferred w s).seg y = { s.seg y with oneShot := ((applyDeferred w s).seg y).oneShot } := by
  cases w with
  | entryLoad m c => rw [applyDeferred, applyEntryLoad_seg]; split <;> rfl
  | targetLoad t d => rw [applyDeferred, applyTargetLoad_seg]; split <;> rfl
  | start | stop | raw => rfl

theorem State.drained_iff : s.drained = true ↔
    (s.engine .a).atRest = true ∧ (s.engine .b).atRest = true ∧ ∀ n, (s.entry n).inFlight = false := by
  have hnone : (s.segInFlight .a = false ∧ s.segInFlight .b = false) ↔ ∀ n, (s.entry n).inFlight = false := by
    simp only [State.segInFlight, allEntries, List.any_eq_false, List.mem_finRange, true_implies, Bool.and_eq_true,
      beq_iff_eq, not_and, ← forall_and]
    refine forall_congr' fun n => ⟨fun h => Bool.eq_false_iff.2 fun hf => ?_, fun h => by simp [h]⟩
    obtain ⟨ha, hb⟩ := h hf
    cases hx : s.entrySegment n
    · exact ha hx
    · exact hb hx
  rw [← hnone]
  simp [State.drained, and_assoc]

theorem applyDeferred_drained : (completeOk (applyDeferred w s)).drained = s.drained := by
  have hengine (y : Segment) : (completeOk (applyDeferred w s)).engine y = s.engine y := by
    rw [State.engine, completeOk_seg, applyDeferred_seg]; rfl
  rw [Bool.eq_iff_iff, State.drained_iff, State.drained_iff, hengine, hengine]
  simp only [completeOk_entry, applyDeferred_inFlight]

/-- A load reads the tables, the time, and whether the collector runs. -/
theorem applyDeferred_congr {t : State} (hentries : t.entries = s.entries) (htargets : t.targets = s.targets)
    (hsegA : t.segA = s.segA) (hsegB : t.segB = s.segB) (helapsed : t.elapsed = s.elapsed)
    (hrunning : t.collector = .running ↔ s.collector = .running) (hlimit : t.limit = s.limit)
    (hband : t.bandPending = s.bandPending) : applyDeferred w t =
      { t with
        entries := (applyDeferred w s).entries, targets := (applyDeferred w s).targets, segA := (applyDeferred w s).segA
        segB := (applyDeferred w s).segB, bandPending := (applyDeferred w s).bandPending, limit := (applyDeferred w s).limit } := by
  have hentry (n : EntryNo) : t.entry n = s.entry n := State.entry_congr hentries n
  have htarget (k : TargetNo) : t.target k = s.target k := State.target_congr htargets k
  have hseg (y : Segment) : t.seg y = s.seg y := State.seg_congr hsegA hsegB y
  have hsegment (n : EntryNo) : t.entrySegment n = s.entrySegment n := by rw [State.entrySegment, hentry, htarget]; rfl
  have hloaded (c : Option EntryDef) : t.loadedEntry c = s.loadedEntry c := by
    simp only [State.loadedEntry, hrunning, State.tickCount, helapsed]
  cases w with
  | start | stop | raw => apply State.ext <;> simp [applyDeferred, *]
  | targetLoad k d =>
    refine State.ext_tables (fun n => ?_) (fun j => ?_) (fun y => ?_) ?_
    · refine ((applyTargetLoad_entry t n k d).trans ?_).trans (applyTargetLoad_entry s n k d).symm
      rw [hentry]
    · refine ((applyTargetLoad_target t k j d).trans ?_).trans (applyTargetLoad_target s k j d).symm
      rw [htarget]
    · refine ((applyTargetLoad_seg t k y d).trans ?_).trans ((applyTargetLoad_seg s k y d).symm.trans (by cases y <;> rfl))
      rw [hseg, htarget]
      simp only [hentry]
    · apply State.ext <;> simp [applyDeferred, *]
  | entryLoad m c =>
    have hentries' (n : EntryNo) : (applyEntryLoad m c t).entry n = (applyEntryLoad m c s).entry n := by
      rw [applyEntryLoad_entry, applyEntryLoad_entry, hentry, hloaded]
    refine State.ext_tables hentries' (fun j => ?_) (fun y => ?_) ?_
    · exact (applyEntryLoad_target ..).trans ((htarget j).trans (applyEntryLoad_target s m j c).symm)
    · refine ((applyEntryLoad_seg t m y c).trans ?_).trans ((applyEntryLoad_seg s m y c).symm.trans (by cases y <;> rfl))
      rw [hseg, hsegment]
    · have hlimit' : (applyEntryLoad m c t).limit = (applyEntryLoad m c s).limit :=
        (applyEntryLoad_limitLawHolds m c t).trans
          ((State.limitLaw_congr fun n => by rw [hentries']).trans (applyEntryLoad_limitLawHolds m c s).symm)
      have hband' : (applyEntryLoad m c t).bandPending = (applyEntryLoad m c s).bandPending := by
        rw [applyEntryLoad_bandPending', applyEntryLoad_bandPending', hband]
      apply State.ext <;> simp [applyDeferred, hlimit', hband']

theorem applyDeferred_frame : applyDeferred w s =
    { s with
      entries := (applyDeferred w s).entries, targets := (applyDeferred w s).targets, segA := (applyDeferred w s).segA
      segB := (applyDeferred w s).segB, bandPending := (applyDeferred w s).bandPending, limit := (applyDeferred w s).limit } :=
  applyDeferred_congr s w rfl rfl rfl rfl rfl Iff.rfl rfl rfl

/-- The loads read the collector only as to whether it runs. -/
theorem applyDeferred_stopped (h : s.collector = .stopping) :
    ({ completeOk (applyDeferred w s) with collector := .stopped } : State)
      = completeOk (applyDeferred w { s with collector := .stopped }) := by
  have hcongr := applyDeferred_congr s w (t := { s with collector := .stopped }) rfl rfl rfl rfl rfl (by simp [h]) rfl rfl
  rw [hcongr]
  conv_lhs => rw [applyDeferred_frame]
  rfl

theorem enterStopped_of_ne (h : s.cu.wait ≠ some .stop) : enterStopped s = { s with collector := .stopped } := if_neg h

theorem endDrain_applyDeferred (h : s.cu.wait = none) :
    endDrain (completeOk (applyDeferred w s)) = completeOk (applyDeferred w (endDrain s)) := by
  have hdrained := applyDeferred_drained s w
  have hcollector : (completeOk (applyDeferred w s)).collector = s.collector := applyDeferred_collector s w
  rcases endDrain_cases s with ⟨hc, hd, heq⟩ | ⟨hno, heq⟩ <;> rw [heq]
  · have hentered : enterStopped s = { s with collector := .stopped } := enterStopped_of_ne s (by simp [h])
    have hentered' : enterStopped (completeOk (applyDeferred w s))
        = { completeOk (applyDeferred w s) with collector := .stopped } := enterStopped_of_ne _ (by simp)
    rw [endDrain, if_pos ⟨hcollector.trans hc, hdrained.trans hd⟩, hentered, hentered', applyDeferred_stopped s w hc]
  · rw [endDrain, if_neg]
    rw [hcollector, hdrained]
    exact hno

theorem admitRecords_applyDeferred : setSegerr (admitRecords bs (completeOk (applyDeferred w s))) =
    completeOk (applyDeferred w (setSegerr (admitRecords bs s))) := by
  have hcongr := applyDeferred_congr s w (t := setSegerr (admitRecords bs s)) rfl rfl rfl rfl rfl Iff.rfl rfl rfl
  rw [hcongr]
  conv_lhs => rw [applyDeferred_frame]
  rfl

end

end

/-! ### The commands that end a poll (R61 to R65) -/

section
variable {s u : State} {x : Segment} {p : PollWork} {c : Instr} {w : Wait}

/-- A poll has ended with no load behind it, and what a load reads is as it was. -/
def State.pollOver (s u : State) (p : PollWork) : Prop :=
  u.cu = { s.cu with wait := none } ∧ (u.entry p.entry).inFlight = false ∧ u.elapsed = s.elapsed
    ∧ (u.collector = .running ↔ s.collector = .running) ∧ (u.target p.target).d = (s.target p.target).d

/-- A deferred load that is applied where its poll ends (R152). -/
def State.endsWithLoad (s : State) (c : Instr) (p : PollWork) (w : Wait) : Prop :=
  ∃ u, exec c (s.withWait (some w)) = .next (completeOk (applyDeferred w u)) ∧ exec c (s.withWait none) = .next u ∧ s.pollOver u p

theorem State.judgement_d (o : WorkOutcome) : (s.judgement p o).1.d = (s.target p.target).d := Target.judge_d ..

theorem pollOver_finishWork {o : WorkOutcome} {data : List Byte} {st : EngineState} {t : State} (hcu : t.cu = s.cu)
    (helapsed : t.elapsed = s.elapsed) (hcollector : t.collector = s.collector)
    (htarget : t.target p.target = s.target p.target) :
    s.pollOver (finishWork x (.poll p) o data st (t.withWait none)) p := by
  have hd : (t.withWait none).deferredBehind p = false := rfl
  refine ⟨?_, ?_, ?_, ?_, ?_⟩
  · rw [finishWork_poll_frame st hd, ← hcu]; rfl
  · rw [finishWork_poll_entry st hd, if_pos rfl]
  · rw [finishWork_poll_frame st hd]; exact helapsed
  · rw [finishWork_poll_frame st hd, ← hcollector]; exact Iff.rfl
  · rw [finishWork_poll_target st hd, if_pos rfl, State.judgement_d, State.withWait_target, htarget]

theorem State.pollOver.endDrain {bs : List Body} (h : s.pollOver u p) :
    s.pollOver (endDrain (setSegerr (admitRecords bs u))) p := by
  obtain ⟨hcu, hflight, helapsed, hrunning, htarget⟩ := h
  have hcollector := endDrain_collector (s := setSegerr (admitRecords bs u))
  refine ⟨?_, ?_, ?_, ?_, ?_⟩
  · rcases endDrain_cases (setSegerr (admitRecords bs u)) with ⟨-, -, heq⟩ | ⟨-, heq⟩ <;> rw [heq]
    · rw [enterStopped_of_ne _ (by rw [setSegerr_cu, admitRecords_cu, hcu]; simp)]; exact hcu
    · exact hcu
  · rw [endDrain_entry]; exact hflight
  · rw [endDrain_frame]; exact helapsed
  · rw [hcollector, ← hrunning]
    split
    · next hs => rw [show u.collector = .stopping from hs.1]; simp
    · exact Iff.rfl
  · rw [endDrain_target]; exact htarget

/-- A command that ends the poll and leaves its engine IDLE. -/
theorem endsWithLoad_of_finishWork (o : WorkOutcome) (data : List Byte) (f : Seg → Seg) (hw : w.behind p)
    (hexec : ∀ v, exec c (s.withWait v) = .next (finishWork x (.poll p) o data .idle ((s.modSeg x f).withWait v))) :
    s.endsWithLoad c p w :=
  ⟨_, (hexec (some w)).trans (congrArg _ (finishWork_deferred _ _ _ _ _ _ hw)), hexec none,
    pollOver_finishWork (by simp) (by simp) (by simp) (by simp)⟩

/-- A command by which the poll's segment is FAULTED. -/
theorem endsWithLoad_of_faultSegment {g : Seg → Seg} (hw : w.behind p) (hwork : (s.engine x).work = some (.poll p))
    (hg : (g (s.seg x)).rawPending = false)
    (hexec : ∀ v, exec c (s.withWait v) = .next (endDrain (faultSegment x g (s.withWait v)))) : s.endsWithLoad c p w := by
  set ended := fun v => finishWork x (.poll p) .busStuck [] .faulted ((s.emptied x g).withWait v) with hended
  have hfault (v : Option Wait) (hpending : ((ended v).seg x).rawPending = false) :
      faultSegment x g (s.withWait v) = setSegerr (admitRecords [busStuckRecord x] (ended v)) := by
    rw [faultSegment_eq, State.withWait_engine, hwork, State.emptied_withWait]
    exact congrArg (fun t => setSegerr (admitRecords [busStuckRecord x] t)) (withdrawRaw_of_not_pending hpending)
  have hnone : ((ended none).seg x).rawPending = false := by
    rw [hended, finishWork_poll_seg .faulted (by rfl), State.withWait_seg, State.emptied_seg, if_pos rfl]
    exact hg
  have hload : ended (some w) = completeOk (applyDeferred w (ended none)) := finishWork_deferred _ _ _ _ _ _ hw
  have hsome : ((ended (some w)).seg x).rawPending = false := by
    rw [hload, completeOk_seg, applyDeferred_seg]
    exact hnone
  have hover : s.pollOver (ended none) p :=
    pollOver_finishWork (by simp [State.emptied]) (by simp [State.emptied]) (by simp [State.emptied]) (by simp [State.emptied])
  refine ⟨endDrain (setSegerr (admitRecords [busStuckRecord x] (ended none))), ?_, ?_, hover.endDrain⟩
  · rw [hexec, hfault _ hsome, hload, admitRecords_applyDeferred, endDrain_applyDeferred]
    rw [setSegerr_cu, admitRecords_cu, hover.1]
  · rw [hexec, hfault _ hnone]

theorem State.waitsInGap_withWait (v : Option Wait) (wk : Work) (h : HeldTransfer) :
    (s.withWait v).waitsInGap x wk h = s.waitsInGap x wk h := by
  rw [State.waitsInGap, State.withWait_engine]; rfl

theorem State.clearFails_withWait (v : Option Wait) (r : ClearRun) (left : LeftLow) :
    (s.withWait v).clearFails r left = s.clearFails r left := by
  unfold State.clearFails
  rw [State.withWait_engine]

/-- Every command that ends a poll ends the load deferred behind it. -/
theorem endsWithLoad_of_endsPoll (hr : s.inReset = false) (hwork : (s.engine x).work = some (.poll p)) (hc : s.endsPoll x c)
    (hw : w.behind p) : s.endsWithLoad c p w := by
  have hwork' (v : Option Wait) : ((s.withWait v).engine x).work = some (.poll p) := by rw [State.withWait_engine, hwork]
  rcases hc with ⟨⟨resp, rfl⟩, hstage⟩ | ⟨⟨l, waited, h, rfl, hlimit⟩, hstage⟩
    | ⟨⟨rfl, hstage⟩ | ⟨rfl, hgap, hstate⟩, hmulti, hretries⟩ | ⟨⟨r, left, rfl, rfl, hfails⟩, hstate, hpending⟩
  · refine endsWithLoad_of_finishWork ((Work.poll p).xfer.outcome resp.acks ((Work.poll p).xfer.receive resp))
      (((Work.poll p).xfer.receive resp).take p.length.val) Seg.ownStop hw (x := x) fun v => ?_
    rw [exec_completion_eq (s := s.withWait v) hr (State.workToStop_of_stage (hwork' v) (by simpa using hstage)), ownStop,
      State.modSeg_withWait]
  · refine endsWithLoad_of_finishWork (heldOutcome (.poll p) l h) [] (Seg.giveUp l waited h (s.waitsInGap x (.poll p) h)
      (100 * (s.engine x).latched.stretch) s.elapsed) hw (x := x) fun v => ?_
    rw [exec_stretchTimeout_eq (s := s.withWait v) hr (State.workOnWire_of_stage (by simpa using hstage) (hwork' v))
      (by simpa using hlimit), State.modSeg_withWait, State.waitsInGap_withWait, State.withWait_engine]
    rfl
  · refine endsWithLoad_of_finishWork .arbLost [] (Seg.lostLast s.elapsed) hw (x := x) fun v => ?_
    rw [exec_arbitrationLoss_eq (s := s.withWait v) hr (State.workOnWire_of_stage (by simpa using hstage) (hwork' v))
      (by simpa using hmulti), loseArbitration_of_le (by simpa using hretries), State.modSeg_withWait]
    rfl
  · refine endsWithLoad_of_finishWork .arbLost [] (fun g => (g.seesStart s.elapsed).lostLast s.elapsed) hw (x := x) fun v => ?_
    rw [exec_foreignStartSeen_of_gap (s := s.withWait v) hr (by simpa using hstate) (by simpa using hgap)
      (by simpa using hmulti) (hwork' v), loseArbitration_of_le, State.modSeg_elapsed, State.modSeg_modSeg, State.modSeg_withWait]
    · rfl
    · rw [State.engine, State.seg_modSeg, if_pos rfl, State.withWait_seg]
      exact hretries
  · refine endsWithLoad_of_faultSegment (x := r.segment) (g := Seg.clearFailed r left
      (100 * (s.engine r.segment).latched.stretch) s.elapsed) hw hwork hpending fun v => ?_
    rw [exec_busClearFail_eq (s := s.withWait v) hr (by simpa using hstate) (by rw [State.clearFails_withWait]; exact hfails),
      State.withWait_engine]
    rfl

/-! ### What the load leaves -/

theorem exec_deferredLoadEnd_eq_completion (hr : s.inReset = false) (hwork : (s.engine x).work = some (.poll p))
    (hd : s.deferredBehind p = true) (resp : WireResponse) :
    exec (.deferredLoadEnd x resp) s = exec (.completion x resp) s := by
  change execDeferredLoadEnd x resp s = execCompletion x resp s
  have hstop : s.workToStop x = some (.poll p) ∨ s.workToStop x = none := by
    unfold State.workToStop
    split
    · exact .inl hwork
    · exact .inr rfl
  rw [execDeferredLoadEnd, execCompletion, running_of_not_inReset hr, running_of_not_inReset hr]
  rcases hstop with h | h <;> simp only [h, hd, if_true]

theorem completeOk_endsAs (hu : u.cu = { s.cu with wait := none }) : s.endsAs (completeOk (applyDeferred w u)) 0x01#8 := by
  refine ⟨?_, rfl⟩
  have hcu : (applyDeferred w u).cu = { s.cu with wait := none } := (applyDeferred_cu u w).trans hu
  simp only [completeOk, complete, hcu]
  rfl

/-- Settles O50. -/
theorem deferredLoadAppliesBehindItsPoll : Obligations.DeferredLoadAppliesBehindItsPoll := by
  refine fun s x p hr hwork hd => ⟨exec_deferredLoadEnd_eq_completion hr hwork hd, fun c hc => ?_⟩
  obtain ⟨w, hwait, hw⟩ := (s.deferredBehind_iff p).1 hd
  obtain ⟨u, hload, hnone, hcu, hflight, helapsed, hrunning, htarget⟩ := endsWithLoad_of_endsPoll hr hwork hc hw
  rw [← hwait, State.withWait_self] at hload
  refine ⟨_, u, hload, hnone, completeOk_endsAs hcu, fun cand hcand => ?entry, fun d hcand => ?target⟩
  case entry =>
    cases hwait.symm.trans hcand
    dsimp only [applyDeferred]
    have htick : u.tickCount = s.tickCount := by rw [State.tickCount, helapsed]; rfl
    refine ⟨?_, ?_, fun m hm => ?_, fun y => ?_, ?_⟩
    · rw [← applyEntryLoad_bandPending' u p.entry cand]
      apply State.ext <;> simp [completeOk, complete]
    · rw [completeOk_entry, applyEntryLoad_entry, if_pos rfl, hflight, State.loadedEntry, htick]
      simp only [hrunning]
      rfl
    · rw [completeOk_entry, applyEntryLoad_entry, if_neg hm]
    · rw [completeOk_seg, applyEntryLoad_seg]
      split <;> rfl
    · have hlaw := applyEntryLoad_limitLawHolds p.entry cand u
      exact hlaw
  case target =>
    cases hwait.symm.trans hcand
    dsimp only [applyDeferred]
    refine ⟨?_, ?_, fun k hk => ?_, fun n => ?_, fun y => ?_⟩
    · apply State.ext <;> simp [completeOk, complete]
    · rw [completeOk_target, applyTargetLoad_target, if_pos rfl]
      rfl
    · rw [completeOk_target, applyTargetLoad_target, if_neg hk]
    · exact (completeOk_entry ..).trans (applyTargetLoad_entry ..)
    · rw [completeOk_seg, applyTargetLoad_seg, htarget]
      split <;> rfl

end

end Sys2Proof.Machine
end

section
/-! PROOFS. Lists of records: epochs, streams, losses and succession (R113, R114, R118, R124). -/

namespace Sys2Proof.Machine

section
variable (e e' : Option Half) (rs ts : List Record) (r : Record)

/-! ### Epochs and streams (R114) -/

theorem epochAfter_cons : epochAfter e (r :: rs) = epochAfter (r.epoch?.or e) rs := rfl

theorem epochAfter_append : epochAfter e (rs ++ ts) = epochAfter (epochAfter e rs) ts := List.foldl_append

theorem epochAfter_or : epochAfter (e.or e') rs = (epochAfter e rs).or (epochAfter e' rs) := by
  induction rs generalizing e e' with
  | nil => rfl
  | cons r rs ih =>
    rw [epochAfter_cons, epochAfter_cons, epochAfter_cons]
    cases hr : r.epoch? with
    | none => simpa using ih e e'
    | some x =>
      have hsome (a : Option Half) : (some x).or a = some x := rfl
      rw [hsome, hsome, hsome, ← ih]
      rfl

/-- Only the last bookkeeping record counts, and the epoch before where there is none. -/
theorem epochAfter_eq_or : epochAfter e rs = (epochAfter none rs).or e := by
  induction rs generalizing e with
  | nil => cases e <;> rfl
  | cons r rs ih =>
    rw [epochAfter_cons, epochAfter_cons, ih, ih (r.epoch?.or none)]
    cases r.epoch? <;> cases epochAfter none rs <;> simp

theorem stream_append : stream e (rs ++ ts) = stream e rs ++ stream (epochAfter e rs) ts := by
  induction rs generalizing e with
  | nil => rfl
  | cons r rs ih =>
    cases r with
    | data b st => exact congrArg (_ :: ·) (ih e)
    | time x => exact ih (some x)
    | gap l x => exact ih (some x)

/-- How many data records stand among records. -/
def dataCount : Nat := (rs.filter Record.isData).length

@[simp] theorem dataCount_nil : dataCount [] = 0 := rfl
@[simp] theorem dataCount_data (b : Body) (st : Half) : dataCount (.data b st :: rs) = dataCount rs + 1 := rfl
@[simp] theorem dataCount_time (x : Half) : dataCount (.time x :: rs) = dataCount rs := rfl
@[simp] theorem dataCount_gap (l : Nat) (x : Half) : dataCount (.gap l x :: rs) = dataCount rs := rfl

theorem dataCount_cons : dataCount (r :: rs) = dataCount [r] + dataCount rs := by cases r <;> simp [Nat.add_comm]

theorem length_stream : (stream e rs).length = dataCount rs := by
  induction rs generalizing e with
  | nil => rfl
  | cons r rs ih =>
    cases r with
    | data b st => exact congrArg (· + 1) (ih e)
    | time x => exact ih (some x)
    | gap l x => exact ih (some x)

/-! ### Losses (R113) -/

@[simp] theorem gapLosses_nil : gapLosses [] = 0 := rfl
@[simp] theorem gapLosses_data (b : Body) (st : Half) : gapLosses (.data b st :: rs) = gapLosses rs := by simp [gapLosses]
@[simp] theorem gapLosses_time (x : Half) : gapLosses (.time x :: rs) = gapLosses rs := by simp [gapLosses]
@[simp] theorem gapLosses_gap (l : Nat) (x : Half) : gapLosses (.gap l x :: rs) = l + gapLosses rs := by simp [gapLosses]
theorem gapLosses_cons : gapLosses (r :: rs) = gapLosses [r] + gapLosses rs := by cases r <;> simp
@[simp] theorem gapLosses_append : gapLosses (rs ++ ts) = gapLosses rs + gapLosses ts := by simp [gapLosses]

/-! ### Succession (R113, R118, R124) -/

theorem successionOk_cons (hne : rs ≠ []) : successionOk (r :: rs) = true ↔
    (∀ r' ∈ rs.head?, r.mayPrecede r' = true) ∧ successionOk rs = true := by
  cases rs with
  | nil => exact absurd rfl hne
  | cons r' rest => simp [successionOk]

theorem successionOk_tail (h : successionOk (r :: rs) = true) : successionOk rs = true := by
  cases rs with
  | nil => rfl
  | cons r' rest => exact ((successionOk_cons _ r (by simp)).1 h).2

theorem successionOk_of_append (h : successionOk (rs ++ ts) = true) : successionOk ts = true := by
  induction rs with
  | nil => exact h
  | cons r rs ih => exact ih (successionOk_tail _ r h)

/-- The last record is a data record, so that anything may be appended. -/
theorem successionOk_append (h : successionOk rs = true) (h' : successionOk ts = true) : successionOk (rs ++ ts) = true := by
  induction rs with
  | nil => exact h'
  | cons r rs ih =>
    cases rs with
    | nil =>
      cases ts with
      | nil => exact h
      | cons r' ts =>
        refine (successionOk_cons _ r (by simp)).2 ⟨fun r'' _ => ?_, h'⟩
        cases r with
        | data b st => rfl
        | time x => exact absurd h (by simp [successionOk, Record.isData])
        | gap l x => exact absurd h (by simp [successionOk, Record.isData])
    | cons r' rest =>
      obtain ⟨hhead, htail⟩ := (successionOk_cons (r' :: rest) r (by simp)).1 h
      exact (successionOk_cons _ r (by simp)).2 ⟨hhead, ih htail⟩

theorem dataCount_le_sizes : dataCount rs ≤ sizes rs := by
  induction rs with
  | nil => exact Nat.le_refl 0
  | cons r rs ih =>
    have hpos := r.size_pos
    cases r <;> simp only [dataCount_data, dataCount_time, dataCount_gap, sizes_cons] <;> omega

end

/-! ### Eviction (R122, R123) -/

section
variable (q : Queue) (target : Nat) (t : Tally) (rs : List Record)

theorem Tally.remove_eq (r : Record) : t.remove r =
    { fill := t.fill - r.size, removed := t.removed + dataCount [r], carried := t.carried + gapLosses [r]
      epoch := r.epoch?.or t.epoch } := by
  cases r <;> simp [Tally.remove, Record.epoch?]

/-- What an eviction removes: no more than it takes to reach the target. -/
theorem evictUntil_spec : ∃ removed rest, rs = removed ++ rest
    ∧ evictUntil target t rs =
      ({ fill := t.fill - sizes removed, removed := t.removed + dataCount removed
         carried := t.carried + gapLosses removed, epoch := epochAfter t.epoch removed }, rest)
    ∧ (rest ≠ [] → target ≤ 2048 - (t.fill - sizes removed))
    ∧ ∀ init r, removed = init ++ [r] → 2048 - (t.fill - sizes init) < target := by
  induction rs generalizing t with
  | nil => exact ⟨[], [], rfl, rfl, fun h => absurd rfl h, fun init r h => by simp at h⟩
  | cons r rs ih =>
    rw [evictUntil]
    split
    · next hstop => exact ⟨[], r :: rs, rfl, rfl, fun _ => hstop, fun init r h => by simp at h⟩
    · next hgo =>
      obtain ⟨removed, rest, hrs, hevict, hreached, hminimal⟩ := ih (t.remove r)
      rw [Tally.remove_eq] at hevict hreached hminimal
      refine ⟨r :: removed, rest, by rw [hrs]; rfl, ?_, ?_, fun init x hinit => ?_⟩
      · rw [Tally.remove_eq, hevict, sizes_cons, ← Nat.sub_sub, dataCount_cons removed r, gapLosses_cons removed r,
          ← Nat.add_assoc, ← Nat.add_assoc]
        rfl
      · rwa [sizes_cons, ← Nat.sub_sub]
      · cases init with
        | nil => exact not_le.1 hgo
        | cons y init =>
          obtain ⟨rfl, htail⟩ := List.cons.inj hinit
          rw [sizes_cons, ← Nat.sub_sub]
          exact hminimal init x htail

/-! ### The merge behind the head Gap record (R124) -/

/-- No Gap record stands at the head of records. -/
def noGapHead (rs : List Record) : Prop := ∀ l e rest, rs ≠ .gap l e :: rest

/-- A Gap record that is merged into the one in front of it, or none. -/
def mergedInto (merged rest : List Record) : Prop := (merged = [] ∧ noGapHead rest) ∨ ∃ l e, merged = [.gap l e]

theorem satLost_satLost_add (m n : Nat) : satLost (satLost m + n) = satLost (m + n) := by unfold satLost; omega

theorem Queue.mergeHead_spec (L : Nat) (e : Half) (behind : List Record) (hq : q.records = .gap (satLost L) e :: behind) :
    ∃ merged rest, behind = merged ++ rest ∧ mergedInto merged rest ∧ q.mergeHead =
      { q with records := .gap (satLost (L + gapLosses merged)) ((epochAfter none merged).getD e) :: rest
               headEpoch := epochAfter q.headEpoch merged } := by
  unfold Queue.mergeHead
  split
  · next l1 e1 l2 e2 rest heq =>
    obtain ⟨hgap, rfl⟩ := List.cons.inj (hq.symm.trans heq)
    cases hgap
    refine ⟨[.gap l2 e2], rest, rfl, .inr ⟨l2, e2, rfl⟩, ?_⟩
    rw [satLost_satLost_add]
    simp [epochAfter, Record.epoch?]
  · next hno =>
    refine ⟨[], behind, rfl, .inl ⟨rfl, fun l e' rest hbehind => hno (satLost L) e l e' rest (hbehind ▸ hq)⟩, ?_⟩
    simp [epochAfter, ← hq]

/-! ### Room made (R121 to R125) -/

/-- The queue once records behind its head have been evicted to reach a target, with the head Gap record that keeps the
account of them. -/
def Queue.evicted (q : Queue) (lost : Nat) (e : Half) (target : Nat) (behind : List Record) : Queue :=
  let r := evictUntil target { fill := q.fill, removed := 0, carried := 0, epoch := none } behind
  Queue.mergeHead { q with
    records := .gap (satLost (lost + r.1.removed + r.1.carried)) (r.1.epoch.getD e) :: r.2
    headEpoch := r.1.epoch.or q.headEpoch
    lossTotal := satTotal (q.lossTotal + r.1.removed) }

theorem Queue.makeRoom_of_gap {lost : Nat} {e : Half} {behind : List Record} (need : Nat) (hq : q.records = .gap lost e :: behind) :
    q.makeRoom need = q.evicted lost e need behind := by
  rw [Queue.makeRoom, hq]
  rfl

theorem Queue.makeRoom_of_noGapHead (need : Nat) (hq : noGapHead q.records) :
    q.makeRoom need = q.evicted 0 (q.headEpoch.getD 0) (need + 5) q.records := by
  rw [Queue.makeRoom, Queue.evicted]
  split
  · next l e rest heq => exact absurd heq (hq l e rest)
  · simp only [Nat.zero_add]

/-- What an eviction with a merge removes and leaves. -/
structure Queue.Evicts (q q' : Queue) (lost : Nat) (e : Half) (target : Nat) (removed merged rest : List Record) : Prop where
  merge : mergedInto merged rest
  reached : merged ++ rest ≠ [] → target ≤ 2048 - (q.fill - sizes removed)
  minimal : ∀ init r, removed = init ++ [r] → 2048 - (q.fill - sizes init) < target
  eq : q' = { q with
    records := .gap (satLost (lost + dataCount removed + gapLosses (removed ++ merged)))
      ((epochAfter none (removed ++ merged)).getD e) :: rest
    headEpoch := epochAfter q.headEpoch (removed ++ merged)
    lossTotal := satTotal (q.lossTotal + dataCount removed) }

theorem Queue.evicted_evicts (lost : Nat) (e : Half) (behind : List Record) : ∃ removed merged rest,
    behind = removed ++ merged ++ rest ∧ q.Evicts (q.evicted lost e target behind) lost e target removed merged rest := by
  obtain ⟨removed, left, hbehind, hevict, hreached, hminimal⟩ :=
    evictUntil_spec target { fill := q.fill, removed := 0, carried := 0, epoch := none } behind
  rw [Queue.evicted, hevict]
  simp only [Nat.zero_add]
  obtain ⟨merged, rest, hleft, hmerge, heq⟩ := Queue.mergeHead_spec
    { q with
      records := .gap (satLost (lost + dataCount removed + gapLosses removed)) ((epochAfter none removed).getD e) :: left
      headEpoch := (epochAfter none removed).or q.headEpoch
      lossTotal := satTotal (q.lossTotal + dataCount removed) } _ _ left rfl
  refine ⟨removed, merged, rest, by rw [hbehind, hleft, List.append_assoc], hmerge, hleft ▸ hreached, hminimal, ?_⟩
  rw [heq, epochAfter_append, epochAfter_append, epochAfter_eq_or q.headEpoch removed, gapLosses_append, ← Nat.add_assoc,
    epochAfter_eq_or (epochAfter none removed) merged]
  cases epochAfter none merged <;> simp

/-! ### The head of the queue, and the room that is made behind it -/

/-- How the queue stands to an eviction: the records behind its head, the target, the losses and the epoch at the head. -/
def Queue.splitsAs (q : Queue) (need : Nat) (behind : List Record) (target lost : Nat) (epoch : Option Half) : Prop :=
  (∃ e, q.records = .gap lost e :: behind ∧ target = need ∧ epoch = some e)
    ∨ (noGapHead q.records ∧ behind = q.records ∧ target = need + 5 ∧ lost = 0 ∧ epoch = q.headEpoch)

variable {q} {need : Nat} {behind : List Record} {lost : Nat} {epoch : Option Half} {target}

theorem Queue.exists_splitsAs (q : Queue) (need : Nat) : ∃ behind target lost epoch, q.splitsAs need behind target lost epoch := by
  by_cases h : ∃ l e rest, q.records = .gap l e :: rest
  · obtain ⟨l, e, rest, h⟩ := h
    exact ⟨rest, need, l, some e, .inl ⟨e, h, rfl, rfl⟩⟩
  · push Not at h
    exact ⟨_, _, _, _, .inr ⟨h, rfl, rfl, rfl, rfl⟩⟩

theorem Queue.splitsAs.unique {behind' : List Record} {target' lost' : Nat} {epoch' : Option Half}
    (h : q.splitsAs need behind target lost epoch) (h' : q.splitsAs need behind' target' lost' epoch') :
    behind' = behind ∧ target' = target ∧ lost' = lost ∧ epoch' = epoch := by
  rcases h with ⟨e, hq, rfl, rfl⟩ | ⟨hno, rfl, rfl, rfl, rfl⟩ <;> rcases h' with ⟨e', hq', rfl, rfl⟩ | ⟨hno', rfl, rfl, rfl, rfl⟩
  · cases hq.symm.trans hq'
    exact ⟨rfl, rfl, rfl, rfl⟩
  · exact absurd hq (hno' _ _ _)
  · exact absurd hq' (hno _ _ _)
  · exact ⟨rfl, rfl, rfl, rfl⟩

/-- The bytes held, by the head that stands in front of an eviction. -/
theorem Queue.splitsAs.fill (h : q.splitsAs need behind target lost epoch) :
    q.fill + target = sizes behind + need + 5 ∧ sizes behind ≤ q.fill ∧ q.fill ≤ sizes behind + 5 ∧ need ≤ target
      ∧ target ≤ need + 5 := by
  rcases h with ⟨e, hq, rfl, rfl⟩ | ⟨hno, rfl, rfl, rfl, rfl⟩
  · rw [Queue.fill, hq, sizes_cons, Record.size_gap]
    omega
  · rw [Queue.fill]
    omega

/-- A data record at the head has a valid epoch (R125). -/
def Queue.headKnown (q : Queue) : Prop := q.headEpoch = none → ∀ r ∈ q.records.head?, r.isData = false

/-- The room an eviction makes for a unit (R121 to R125); its head Gap record has an epoch to carry where the head's is
known. -/
structure Queue.Room (q q' : Queue) (behind : List Record) (target lost : Nat) (epoch : Option Half)
    (removed merged rest : List Record) (e : Half) : Prop where
  split : behind = removed ++ merged ++ rest
  merge : mergedInto merged rest
  ne_nil : removed ≠ []
  reached : target ≤ 2048 - (q.fill - sizes removed)
  minimal : ∀ init r, removed = init ++ [r] → 2048 - (q.fill - sizes init) < target
  epoch : q.headKnown → epochAfter epoch (removed ++ merged) = some e
  eq : q' = { q with
    records := .gap (satLost (lost + dataCount removed + gapLosses (removed ++ merged))) e :: rest
    headEpoch := epochAfter q.headEpoch (removed ++ merged)
    lossTotal := satTotal (q.lossTotal + dataCount removed) }

/-- An eviction for a unit of lawful size makes room for it, and finds an epoch for the head Gap record (R123). -/
theorem Queue.makeRoom_room (hneed : need ≤ 18) (hfull : q.free < need)
    (hsplit : q.splitsAs need behind target lost epoch) :
    ∃ removed merged rest e, q.Room (q.makeRoom need) behind target lost epoch removed merged rest e := by
  have hfill := hsplit.fill
  have hfree : 2048 - q.fill < need := hfull
  obtain ⟨e0, hmake, hepoch⟩ : ∃ e0, q.makeRoom need = q.evicted lost e0 target behind
      ∧ (epoch = some e0 ∨ (epoch = q.headEpoch ∧ behind = q.records ∧ noGapHead q.records ∧ e0 = q.headEpoch.getD 0)) := by
    rcases hsplit with ⟨e, hq, rfl, rfl⟩ | ⟨hno, rfl, rfl, rfl, rfl⟩
    · exact ⟨e, q.makeRoom_of_gap _ hq, .inl rfl⟩
    · exact ⟨_, q.makeRoom_of_noGapHead _ hno, .inr ⟨rfl, rfl, hno, rfl⟩⟩
  obtain ⟨removed, merged, rest, hbehind, hevicts⟩ := q.evicted_evicts target lost e0 behind
  rw [hmake]
  have hne : removed ≠ [] := by
    rintro rfl
    by_cases hall : merged ++ rest = []
    · have hnil : behind = [] := by rw [hbehind]; simpa using hall
      rw [hnil, sizes_nil] at hfill
      omega
    · have := hevicts.reached hall
      rw [sizes_nil] at this
      omega
  refine ⟨removed, merged, rest, (epochAfter none (removed ++ merged)).getD e0, hbehind, hevicts.merge, hne, ?_,
    hevicts.minimal, fun hhead => ?_, hevicts.eq⟩
  · by_cases hall : merged ++ rest = []
    · have hsizes : sizes removed = sizes behind := by rw [hbehind, List.append_assoc, hall, List.append_nil]
      omega
    · exact hevicts.reached hall
  · rw [epochAfter_eq_or]
    rcases hepoch with rfl | ⟨rfl, rfl, hno, rfl⟩
    · cases epochAfter none (removed ++ merged) <;> rfl
    · cases hafter : epochAfter none (removed ++ merged) with
      | some e => rfl
      | none =>
        cases hepoch : q.headEpoch with
        | some e => rfl
        | none =>
          obtain ⟨r, tail, rfl⟩ := List.exists_cons_of_ne_nil hne
          have hr := hhead hepoch r (by rw [hbehind]; rfl)
          cases r with
          | data b st => cases hr
          | gap l x => exact absurd hbehind (hno l x _)
          | time x =>
            rw [List.cons_append, epochAfter_cons, epochAfter_eq_or] at hafter
            cases hx : epochAfter none (tail ++ merged) <;> simp [hx, Record.epoch?] at hafter

end

end Sys2Proof.Machine
end

section
/-! PROOFS. Admission keeps the queue's laws, and what becomes of each record (R115 to R125). -/

namespace Sys2Proof.Machine

/-! ### The unit of a data record (R116 to R118) -/

section
variable (q : Queue) (epoch : Half) (stamp : Long) (b : Body)

theorem Queue.front_cases :
    (0 < q.pendingLoss ∧ q.front epoch = [.gap q.pendingLoss epoch])
      ∨ (q.pendingLoss = 0 ∧ q.epochWritten = some epoch ∧ q.front epoch = [])
      ∨ (q.pendingLoss = 0 ∧ q.epochWritten ≠ some epoch ∧ q.front epoch = [.time epoch]) := by
  unfold Queue.front
  by_cases hp : 0 < q.pendingLoss
  · exact .inl ⟨hp, if_pos hp⟩
  · rw [if_neg hp]
    by_cases he : q.epochWritten = some epoch
    · exact .inr (.inl ⟨by omega, he, if_pos he⟩)
    · exact .inr (.inr ⟨by omega, he, if_neg he⟩)

theorem Queue.epochAfter_front : epochAfter q.epochWritten (q.front epoch) = some epoch := by
  rcases q.front_cases epoch with ⟨-, h⟩ | ⟨-, he, h⟩ | ⟨-, -, h⟩ <;> rw [h]
  · rfl
  · exact he
  · rfl

theorem Queue.gapLosses_front : gapLosses (q.front epoch) = q.pendingLoss := by
  rcases q.front_cases epoch with ⟨-, h⟩ | ⟨hp, -, h⟩ | ⟨hp, -, h⟩ <;> rw [h]
  · simp
  · simp [hp]
  · simp [hp]

theorem Queue.stream_front (e : Option Half) : Machine.stream e (q.front epoch) = [] := by
  rcases q.front_cases epoch with ⟨-, h⟩ | ⟨-, -, h⟩ | ⟨-, -, h⟩ <;> rw [h] <;> rfl

theorem Queue.successionOk_unit (st : Half) : successionOk (q.front epoch ++ [.data b st]) = true := by
  rcases q.front_cases epoch with ⟨-, h⟩ | ⟨-, -, h⟩ | ⟨-, -, h⟩ <;> rw [h] <;> rfl

theorem Queue.need_le : q.need epoch b ≤ b.size + 5 := by
  rw [Queue.need]
  rcases q.front_cases epoch with ⟨-, h⟩ | ⟨-, -, h⟩ | ⟨-, -, h⟩ <;> rw [h] <;> simp <;> omega

/-! ### A unit written (R118) -/

theorem Queue.write_records : (q.write stamp b).records = q.records ++ (q.front (epochOf stamp) ++ [.data b (lowStamp stamp)]) :=
  List.append_assoc ..

variable {q stamp b}

theorem Queue.stream_write (h : q.epochLaw) :
    (q.write stamp b).stream = q.stream ++ [(some (epochOf stamp), b, lowStamp stamp)] := by
  change Machine.stream q.headEpoch (q.write stamp b).records = _
  rw [Queue.write_records, stream_append, stream_append, h.1, Queue.epochAfter_front, Queue.stream_front]
  rfl

theorem Queue.unreadLosses_write : (q.write stamp b).unreadLosses = q.unreadLosses := by
  change gapLosses (q.write stamp b).records + 0 = gapLosses q.records + q.pendingLoss
  rw [Queue.write_records, gapLosses_append, gapLosses_append, Queue.gapLosses_front]
  simp

theorem Queue.epochLaw_write (h : q.epochLaw) : (q.write stamp b).epochLaw := by
  obtain ⟨htail, hhead⟩ := h
  constructor
  · change epochAfter q.headEpoch (q.write stamp b).records = some (epochOf stamp)
    rw [Queue.write_records, epochAfter_append, epochAfter_append, htail, Queue.epochAfter_front]
    rfl
  · intro hnone r hr
    change q.headEpoch = none at hnone
    rw [Queue.write_records] at hr
    cases hrecords : q.records with
    | cons r' rest =>
      rw [hrecords] at hr hhead
      exact hhead hnone r hr
    | nil =>
      have hwritten : q.epochWritten = none := by rw [← htail, hrecords, hnone]; rfl
      rw [hrecords] at hr
      rcases q.front_cases (epochOf stamp) with ⟨-, h⟩ | ⟨-, he, -⟩ | ⟨-, -, h⟩
      · rw [h] at hr; cases hr; rfl
      · rw [hwritten] at he; cases he
      · rw [h] at hr; cases hr; rfl

theorem Queue.law_write (h : q.law) (hb : b.size ≤ 13) (hfits : q.need (epochOf stamp) b ≤ q.free) : (q.write stamp b).law := by
  obtain ⟨hfill, hsound, hsucc, hpending, htotal⟩ := h
  refine ⟨?_, fun r hr => ?_, ?_, Nat.zero_le _, htotal⟩
  · rw [Queue.fill_write]
    rw [Queue.free] at hfits
    omega
  · rw [Queue.write_records, List.mem_append, List.mem_append, List.mem_singleton] at hr
    rcases hr with hr | hr | rfl
    · exact hsound r hr
    · rcases q.front_cases (epochOf stamp) with ⟨hp, h⟩ | ⟨-, -, h⟩ | ⟨-, -, h⟩ <;> rw [h] at hr
      · cases List.mem_singleton.1 hr; exact ⟨hp, hpending⟩
      · cases hr
      · cases List.mem_singleton.1 hr; trivial
    · exact hb
  · rw [Queue.write_records]
    exact successionOk_append _ _ hsucc (q.successionOk_unit _ b _)

/-! ### A record lost (R120) -/

theorem Queue.law_lose (h : q.law) : q.lose.law := by
  obtain ⟨hfill, hsound, hsucc, -, -⟩ := h
  exact ⟨hfill, hsound, hsucc, Nat.min_le_left _ _, Nat.min_le_left _ _⟩

theorem Queue.epochLaw_lose (h : q.epochLaw) : q.lose.epochLaw := h

theorem Queue.unreadLosses_lose (hu : q.unreadLosses + 2048 ≤ 65535) (ht : q.lossTotal + 2048 ≤ 4294967295) :
    q.lose.unreadLosses + q.lossTotal = q.unreadLosses + q.lose.lossTotal := by
  change gapLosses q.records + min 65535 (q.pendingLoss + 1) + q.lossTotal
    = gapLosses q.records + q.pendingLoss + min 4294967295 (q.lossTotal + 1)
  change gapLosses q.records + q.pendingLoss + 2048 ≤ 65535 at hu
  omega

end

/-! ### Room made (R121 to R125) -/

section
variable {q q' : Queue} {need target lost : Nat} {behind removed merged rest : List Record} {epoch : Option Half} {e : Half}

theorem Record.sound.size_le {r : Record} (h : r.sound) : r.size ≤ 13 := by
  cases r with
  | data b st => exact h
  | time x => exact (by decide : (3 : Nat) ≤ 13)
  | gap l x => exact (by decide : (5 : Nat) ≤ 13)

namespace Queue.splitsAs

variable (h : q.splitsAs need behind target lost epoch)
include h

theorem sublist : ∀ r ∈ behind, r ∈ q.records := by
  rcases h with ⟨e, hq, -⟩ | ⟨-, rfl, -⟩
  · rw [hq]; exact fun r hr => List.mem_cons_of_mem _ hr
  · exact fun r hr => hr

theorem successionOk (hs : Machine.successionOk q.records = true) : Machine.successionOk behind = true := by
  rcases h with ⟨e, hq, -⟩ | ⟨-, rfl, -⟩
  · rw [hq] at hs; exact successionOk_tail _ _ hs
  · exact hs

theorem epochAfter : Machine.epochAfter epoch behind = Machine.epochAfter q.headEpoch q.records := by
  rcases h with ⟨e, hq, -, rfl⟩ | ⟨-, rfl, -, -, rfl⟩
  · rw [hq]; rfl
  · rfl

theorem stream : Machine.stream epoch behind = q.stream := by
  rcases h with ⟨e, hq, -, rfl⟩ | ⟨-, rfl, -, -, rfl⟩
  · rw [Queue.stream, hq]; rfl
  · rfl

theorem gapLosses : lost + Machine.gapLosses behind = Machine.gapLosses q.records := by
  rcases h with ⟨e, hq, -⟩ | ⟨-, rfl, -, rfl, -⟩
  · rw [hq, gapLosses_gap]
  · exact Nat.zero_add _

end Queue.splitsAs

/-- The sizes of an eviction: what it frees, and what it leaves (R122). -/
theorem Queue.Room.sizes_removed (hroom : q.Room q' behind target lost epoch removed merged rest e)
    (hsplit : q.splitsAs need behind target lost epoch) (hneed : need ≤ 18) (hlaw : q.law) :
    sizes removed ≤ 35 ∧ 2013 ≤ q.fill - sizes removed ∧ target ≤ 2048 - q.fill + sizes removed
      ∧ ∀ init r, removed = init ++ [r] → 2048 - q.fill + sizes init < target := by
  obtain ⟨hfill, hsound, -⟩ := hlaw
  change q.fill ≤ 2048 at hfill
  have hsizes := hsplit.fill
  have hbehind : sizes behind = sizes removed + sizes merged + sizes rest := by rw [hroom.split, sizes_append, sizes_append]
  have hminimal (init : List Record) (r : Record) (h : removed = init ++ [r]) : 2048 - q.fill + sizes init < target := by
    have := hroom.minimal init r h
    have hle : sizes init ≤ sizes removed := by rw [h, sizes_append]; omega
    omega
  obtain ⟨init, r, hremoved⟩ : ∃ init r, removed = init ++ [r] :=
    ⟨_, _, (List.dropLast_append_getLast hroom.ne_nil).symm⟩
  have hr : r.size ≤ 13 := (hsound r (hsplit.sublist r (by simp [hroom.split, hremoved]))).size_le
  have hlast := hminimal init r hremoved
  have hsum : sizes removed = sizes init + r.size := by rw [hremoved, sizes_append, sizes_cons, sizes_nil, Nat.add_zero]
  have hreached := hroom.reached
  exact ⟨by omega, by omega, by omega, hminimal⟩

theorem mergedInto.sizes_le (h : mergedInto merged rest) : sizes merged ≤ 5 := by
  rcases h with ⟨rfl, -⟩ | ⟨l, x, rfl⟩ <;> simp

/-- Behind the head Gap record no Gap record stands (R124). -/
theorem mergedInto.noGapHead (h : mergedInto merged rest) (hs : successionOk (merged ++ rest) = true) :
    Sys2Proof.Machine.noGapHead rest := by
  rcases h with ⟨-, hno⟩ | ⟨l, x, rfl⟩
  · exact hno
  · rintro l' x' rest' rfl
    have := ((successionOk_cons (.gap l' x' :: rest') (.gap l x) (by simp)).1 hs).1 (.gap l' x') rfl
    simp [Record.mayPrecede] at this

/-- An eviction has losses to account for: a Time record alone would not have been enough. -/
theorem Queue.Room.one_le_lost (hroom : q.Room q' behind target lost epoch removed merged rest e)
    (hsplit : q.splitsAs need behind target lost epoch) (hneed : need ≤ 18) (hfull : q.free < need) (hlaw : q.law) :
    1 ≤ lost + dataCount removed := by
  obtain ⟨-, -, hreached, -⟩ := hroom.sizes_removed hsplit hneed hlaw
  obtain ⟨-, hsound, hsucc, -⟩ := hlaw
  change 2048 - q.fill < need at hfull
  have hbehind := hroom.split
  rcases hsplit with ⟨x, hq, -⟩ | ⟨hno, rfl, rfl, -⟩
  · have hgap : (Record.gap lost x).sound := hsound _ (by rw [hq]; exact List.mem_cons_self)
    exact Nat.le_add_right_of_le hgap.1
  · obtain ⟨r, tail, rfl⟩ := List.exists_cons_of_ne_nil hroom.ne_nil
    cases r with
    | data b st => rw [dataCount_data]; omega
    | gap l x => exact absurd hbehind (hno l x _)
    | time x =>
      cases tail with
      | nil => simp at hreached; omega
      | cons r' tail =>
        rw [hbehind] at hsucc
        have hdata := ((successionOk_cons _ (.time x) (by simp)).1 hsucc).1 r' rfl
        cases r' with
        | data b st => rw [dataCount_time, dataCount_data]; omega
        | time _ => simp [Record.mayPrecede, Record.isData] at hdata
        | gap _ _ => simp [Record.mayPrecede, Record.isData] at hdata

/-- The room is enough for the unit, and the queue with the room keeps its law. -/
theorem Queue.Room.law (hroom : q.Room q' behind target lost epoch removed merged rest e)
    (hsplit : q.splitsAs need behind target lost epoch) (hneed : need ≤ 18) (hfull : q.free < need) (hlaw : q.law) :
    q'.law ∧ need ≤ q'.free := by
  obtain ⟨-, hleft, hreached, -⟩ := hroom.sizes_removed hsplit hneed hlaw
  have hlost := hroom.one_le_lost hsplit hneed hfull hlaw
  have hsizes := hsplit.fill
  have hbehind : sizes behind = sizes removed + sizes merged + sizes rest := by rw [hroom.split, sizes_append, sizes_append]
  have hmerged := hroom.merge.sizes_le
  obtain ⟨hfill, hsound, hsucc, hpending, -⟩ := hlaw
  change q.fill ≤ 2048 at hfill
  have hfill' : q'.fill = 5 + sizes rest := by rw [Queue.fill, hroom.eq, sizes_cons, Record.size_gap]
  have hlater : successionOk (merged ++ rest) = true :=
    successionOk_of_append removed _ (by rw [← List.append_assoc, ← hroom.split]; exact hsplit.successionOk hsucc)
  have hrest : rest ≠ [] := by rintro rfl; rw [sizes_nil] at hbehind; omega
  refine ⟨⟨?_, fun r hr => ?_, ?_, ?_, ?_⟩, ?_⟩
  · rw [hfill']; change _ ≤ 2048; omega
  · rw [hroom.eq] at hr
    rcases List.mem_cons.1 hr with rfl | hr
    · refine ⟨?_, Nat.min_le_left _ _⟩
      change 1 ≤ min 65535 _
      omega
    · exact hsound r (hsplit.sublist r (by rw [hroom.split]; exact List.mem_append_right _ hr))
  · rw [hroom.eq]
    refine (successionOk_cons _ _ hrest).2 ⟨fun r hr => ?_, successionOk_of_append merged _ hlater⟩
    cases r with
    | data b st => rfl
    | time x => rfl
    | gap l x =>
      obtain ⟨tail, rfl⟩ := List.head?_eq_some_iff.1 hr
      exact absurd rfl (hroom.merge.noGapHead hlater l x tail)
  · rw [hroom.eq]; exact hpending
  · rw [hroom.eq]; exact Nat.min_le_left _ _
  · rw [Queue.free, hfill']; change _ ≤ 2048 - _; omega

/-- The head Gap record carries the epoch in effect behind it (R123, R125). -/
theorem Queue.Room.epochLaw (hroom : q.Room q' behind target lost epoch removed merged rest e)
    (hsplit : q.splitsAs need behind target lost epoch) (hepoch : q.epochLaw) : q'.epochLaw := by
  rw [hroom.eq]
  refine ⟨?_, fun _ r hr => by cases hr; rfl⟩
  change epochAfter (some e) rest = q.epochWritten
  rw [← hepoch.1, ← hsplit.epochAfter, hroom.split, epochAfter_append, hroom.epoch hepoch.2]

/-- The stream behind the data records that were removed. -/
theorem Queue.Room.stream (hroom : q.Room q' behind target lost epoch removed merged rest e)
    (hsplit : q.splitsAs need behind target lost epoch) (hhead : q.headKnown) : q'.stream = q.stream.drop (dataCount removed) := by
  have hmerged (x : Option Half) : Machine.stream x merged = [] := by
    rcases hroom.merge with ⟨h, -⟩ | ⟨l, y, h⟩ <;> rw [h] <;> rfl
  have hq' : q'.stream = Machine.stream (some e) rest := by rw [hroom.eq]; rfl
  rw [hq', ← hsplit.stream, hroom.split, stream_append, stream_append, hroom.epoch hhead, hmerged, List.append_nil,
    ← length_stream epoch removed, List.drop_left]

theorem Queue.Room.unreadLosses (hroom : q.Room q' behind target lost epoch removed merged rest e)
    (hsplit : q.splitsAs need behind target lost epoch) (hcount : dataCount removed ≤ 2048)
    (hu : q.unreadLosses + 2048 ≤ 65535) (ht : q.lossTotal + 2048 ≤ 4294967295) :
    q'.unreadLosses + q.lossTotal = q.unreadLosses + q'.lossTotal := by
  have hlosses := hsplit.gapLosses
  rw [hroom.split, gapLosses_append] at hlosses
  have hq' : q'.unreadLosses
      = min 65535 (lost + dataCount removed + Machine.gapLosses (removed ++ merged)) + Machine.gapLosses rest + q.pendingLoss := by
    rw [Queue.unreadLosses, hroom.eq, gapLosses_gap]; rfl
  have htotal : q'.lossTotal = min 4294967295 (q.lossTotal + dataCount removed) := by rw [hroom.eq]; rfl
  have hq : q.unreadLosses = Machine.gapLosses q.records + q.pendingLoss := rfl
  rw [hq', htotal]
  omega

/-! ### Admission (R119, R121) -/

variable {evict pinned : Bool} {stamp : Long} {b : Body}

theorem Queue.admitOne_of_evicts (hfull : q.free < q.need (epochOf stamp) b) (hevict : evict = true) (hpinned : pinned = false) :
    q.admitOne evict pinned stamp b =
      { queue := (q.makeRoom (q.need (epochOf stamp) b)).write stamp b, written := true, loss := true } := by
  subst hevict hpinned
  exact (if_neg (Nat.not_le.mpr hfull)).trans (if_neg Bool.false_ne_true)

/-- The three ways of a data record: written, lost, or written where an eviction has made room. -/
theorem Queue.admitOne_cases (q : Queue) (evict pinned : Bool) (stamp : Long) (b : Body) :
    (q.need (epochOf stamp) b ≤ q.free
        ∧ q.admitOne evict pinned stamp b = { queue := q.write stamp b, written := true, loss := false })
      ∨ (q.free < q.need (epochOf stamp) b ∧ (evict = false ∨ pinned = true)
        ∧ q.admitOne evict pinned stamp b = { queue := q.lose, written := false, loss := true })
      ∨ (q.free < q.need (epochOf stamp) b ∧ evict = true ∧ pinned = false
        ∧ q.admitOne evict pinned stamp b =
          { queue := (q.makeRoom (q.need (epochOf stamp) b)).write stamp b, written := true, loss := true }) := by
  by_cases hfits : q.need (epochOf stamp) b ≤ q.free
  · exact .inl ⟨hfits, Queue.admitOne_of_fits hfits⟩
  · have hfull := not_le.1 hfits
    by_cases hkeep : evict = false ∨ pinned = true
    · exact .inr (.inl ⟨hfull, hkeep, Queue.admitOne_of_refused hfull hkeep⟩)
    · have hevict : evict = true ∧ pinned = false := by simpa using hkeep
      exact .inr (.inr ⟨hfull, hevict.1, hevict.2, Queue.admitOne_of_evicts hfull hevict.1 hevict.2⟩)

theorem Queue.need_le_of_size (q : Queue) (epoch : Half) (hb : b.size ≤ 13) : q.need epoch b ≤ 18 := by
  have := q.need_le epoch b
  omega

theorem Queue.need_of_room (hroom : q.Room q' behind target lost epoch removed merged rest e) (x : Half) (b : Body) :
    q'.need x b = q.need x b := by rw [hroom.eq]; rfl

/-- An admission keeps the law of the queue. -/
theorem Queue.law_admitOne (h : q.law) (hb : b.size ≤ 13) : (q.admitOne evict pinned stamp b).queue.law := by
  rcases q.admitOne_cases evict pinned stamp b with ⟨hfits, heq⟩ | ⟨-, -, heq⟩ | ⟨hfull, -, -, heq⟩ <;> rw [heq]
  · exact Queue.law_write h hb hfits
  · exact Queue.law_lose h
  · obtain ⟨behind, target, lost, epoch, hsplit⟩ := q.exists_splitsAs (q.need (epochOf stamp) b)
    have hneed := q.need_le_of_size (epochOf stamp) hb
    obtain ⟨removed, merged, rest, e, hroom⟩ := Queue.makeRoom_room hneed hfull hsplit
    obtain ⟨hlaw, hfits⟩ := hroom.law hsplit hneed hfull h
    exact Queue.law_write hlaw hb ((Queue.need_of_room hroom _ b).trans_le hfits)

/-- An admission keeps the epochs in effect at the tail and at the head. -/
theorem Queue.epochLaw_admitOne (h : q.epochLaw) (hb : b.size ≤ 13) : (q.admitOne evict pinned stamp b).queue.epochLaw := by
  rcases q.admitOne_cases evict pinned stamp b with ⟨-, heq⟩ | ⟨-, -, heq⟩ | ⟨hfull, -, -, heq⟩ <;> rw [heq]
  · exact Queue.epochLaw_write h
  · exact h
  · obtain ⟨behind, target, lost, epoch, hsplit⟩ := q.exists_splitsAs (q.need (epochOf stamp) b)
    obtain ⟨removed, merged, rest, e, hroom⟩ := Queue.makeRoom_room (q.need_le_of_size (epochOf stamp) hb) hfull hsplit
    exact Queue.epochLaw_write (hroom.epochLaw hsplit h)

/-- What one admission keeps, a group keeps (R115). -/
theorem Queue.admitGroup_keeps {L : Queue → Prop} (hone : ∀ (q : Queue) (b : Body), L q → b.size ≤ 13 →
      L (q.admitOne evict pinned stamp b).queue) (bs : List Body) (hbs : ∀ b ∈ bs, b.size ≤ 13) (hq : L q) :
    L (q.admitGroup evict pinned stamp bs).1 := by
  induction bs generalizing q with
  | nil => exact hq
  | cons b bs ih => exact ih (fun b' hb' => hbs b' (by simp [hb'])) (hone q b hq (hbs b (by simp)))

theorem Queue.law_admitGroup (bs : List Body) (hbs : ∀ b ∈ bs, b.size ≤ 13) (h : q.law) :
    (q.admitGroup evict pinned stamp bs).1.law := Queue.admitGroup_keeps (fun _ _ h hb => Queue.law_admitOne h hb) bs hbs h

theorem Queue.epochLaw_admitGroup (bs : List Body) (hbs : ∀ b ∈ bs, b.size ≤ 13) (h : q.epochLaw) :
    (q.admitGroup evict pinned stamp bs).1.epochLaw :=
  Queue.admitGroup_keeps (fun _ _ h hb => Queue.epochLaw_admitOne h hb) bs hbs h

end

end Sys2Proof.Machine
end

section
/-! PROOFS. Every data record is held or counted (R115 to R125). -/

namespace Sys2Proof.Machine

section
variable {q : Queue} {evict pinned : Bool} {stamp : Long} {b : Body}

theorem satTotal_of_le {n : Nat} (h : n ≤ 4294967295) : min 4294967295 (n + 0) = n := by omega

/-- What an admission by eviction makes of the queue (R121 to R125). -/
theorem Queue.admitOne_evicting (hlaw : q.law) (hepoch : q.epochLaw) (hb : b.size ≤ 13)
    (hfull : q.free < q.need (epochOf stamp) b) (a : Queue)
    (ha : a = (q.makeRoom (q.need (epochOf stamp) b)).write stamp b) {behind : List Record} {target lost : Nat}
    {epoch : Option Half} (hsplit : q.splitsAs (q.need (epochOf stamp) b) behind target lost epoch) :
    ∃ (removed merged rest : List Record) (e : Half), behind = removed ++ merged ++ rest
      ∧ target ≤ 2048 - q.fill + (removed.map Record.size).sum
      ∧ (∀ init r, removed = init ++ [r] → 2048 - q.fill + (init.map Record.size).sum < target)
      ∧ (removed.map Record.size).sum ≤ 35 ∧ 2013 ≤ q.fill - (removed.map Record.size).sum
      ∧ mergedInto merged rest
      ∧ epochAfter epoch (removed ++ merged) = some e
      ∧ a.headEpoch = epochAfter q.headEpoch (removed ++ merged)
      ∧ a.records = .gap (min 65535 (lost + dataCount removed + gapLosses (removed ++ merged))) e
            :: (rest ++ q.front (epochOf stamp) ++ [.data b (lowStamp stamp)])
      ∧ a.stream = q.stream.drop (dataCount removed) ++ [(some (epochOf stamp), b, lowStamp stamp)]
      ∧ a.lossTotal = min 4294967295 (q.lossTotal + dataCount removed)
      ∧ (q.unreadLosses + 2048 ≤ 65535 → q.lossTotal + 2048 ≤ 4294967295 →
          a.unreadLosses + q.lossTotal = q.unreadLosses + a.lossTotal)
      ∧ dataCount removed ≤ q.stream.length := by
  have hneed := q.need_le_of_size (epochOf stamp) hb
  obtain ⟨removed, merged, rest, e, hroom⟩ := Queue.makeRoom_room hneed hfull hsplit
  obtain ⟨h35, h2013, hreached, hminimal⟩ := hroom.sizes_removed hsplit hneed hlaw
  have hcount : dataCount removed ≤ 35 := (dataCount_le_sizes removed).trans h35
  have hfront : (q.makeRoom (q.need (epochOf stamp) b)).front (epochOf stamp) = q.front (epochOf stamp) := by
    rw [hroom.eq]; rfl
  have htotal : a.lossTotal = min 4294967295 (q.lossTotal + dataCount removed) := by
    rw [ha]
    change (q.makeRoom _).lossTotal = _
    rw [hroom.eq]
    rfl
  refine ⟨removed, merged, rest, e, hroom.split, hreached, hminimal, h35, h2013, hroom.merge, hroom.epoch hepoch.2, ?_, ?_,
    ?_, htotal, fun hu ht => ?_, ?_⟩
  · rw [ha]
    change (q.makeRoom _).headEpoch = _
    rw [hroom.eq]
  · rw [ha, Queue.write_records, hfront, hroom.eq, List.append_assoc]
    rfl
  · rw [ha, Queue.stream_write (hroom.epochLaw hsplit hepoch), hroom.stream hsplit hepoch.2]
  · rw [ha, Queue.unreadLosses_write]
    change _ = _ + (q.makeRoom _).lossTotal
    exact hroom.unreadLosses hsplit (by omega) hu ht
  · rw [← hsplit.stream, hroom.split, stream_append, stream_append, List.length_append, List.length_append, length_stream]
    omega

/-- Settles the part of O60 about one record. -/
theorem Queue.record_heldOrCounted (hlaw : q.law) (hepoch : q.epochLaw) (hb : b.size ≤ 13) (evict pinned : Bool) (a : Admission)
    (ha : a = q.admitOne evict pinned stamp b) : ∃ k, k ≤ q.stream.length
      ∧ (a.written = true → a.queue.stream = q.stream.drop k ++ [(some (epochOf stamp), b, lowStamp stamp)]
          ∧ a.queue.lossTotal = min 4294967295 (q.lossTotal + k))
      ∧ (a.written = false → k = 0 ∧ a.queue.stream = q.stream ∧ a.queue.lossTotal = min 4294967295 (q.lossTotal + 1))
      ∧ (evict = false ∨ pinned = true ∨ q.need (epochOf stamp) b ≤ 2048 - q.fill → k = 0)
      ∧ (a.written = false ∨ 0 < k → a.loss = true)
      ∧ (q.unreadLosses + 2048 ≤ 65535 → q.lossTotal + 2048 ≤ 4294967295 →
          a.queue.unreadLosses + q.lossTotal = q.unreadLosses + a.queue.lossTotal)
      ∧ a.queue.fill ≤ 2048
      ∧ (evict = true → pinned = false → 2048 - q.fill < q.need (epochOf stamp) b → a.written = true ∧ a.loss = true ∧
          ∀ (behind : List Record) (target lost0 : Nat) (epoch0 : Option Half),
            q.splitsAs (q.need (epochOf stamp) b) behind target lost0 epoch0 →
            ∃ (removed merged rest : List Record) (e : Half), behind = removed ++ merged ++ rest
              ∧ target ≤ 2048 - q.fill + (removed.map Record.size).sum
              ∧ (∀ init r, removed = init ++ [r] → 2048 - q.fill + (init.map Record.size).sum < target)
              ∧ (removed.map Record.size).sum ≤ 35 ∧ 2013 ≤ q.fill - (removed.map Record.size).sum
              ∧ mergedInto merged rest
              ∧ k = dataCount removed
              ∧ epochAfter epoch0 (removed ++ merged) = some e
              ∧ a.queue.headEpoch = epochAfter q.headEpoch (removed ++ merged)
              ∧ a.queue.records = .gap (min 65535 (lost0 + k + gapLosses (removed ++ merged))) e
                    :: (rest ++ q.front (epochOf stamp) ++ [.data b (lowStamp stamp)])) := by
  have htotal : q.lossTotal ≤ 4294967295 := hlaw.2.2.2.2
  have hfill : a.queue.fill ≤ 2048 := ha ▸ (Queue.law_admitOne hlaw hb).1
  rcases q.admitOne_cases evict pinned stamp b with ⟨hfits, heq⟩ | ⟨hfull, hkeep, heq⟩ | ⟨hfull, hevict, hpinned, heq⟩
  · have hno : ¬ 2048 - q.fill < q.need (epochOf stamp) b := not_lt.2 hfits
    subst ha
    rw [heq] at hfill ⊢
    refine ⟨0, Nat.zero_le _, fun _ => ⟨Queue.stream_write hepoch, (satTotal_of_le htotal).symm⟩, nofun, fun _ => rfl,
      by simp, fun _ _ => ?_, hfill, fun _ _ h => absurd h hno⟩
    rw [Queue.unreadLosses_write]
    rfl
  · subst ha
    rw [heq] at hfill ⊢
    refine ⟨0, Nat.zero_le _, nofun, fun _ => ⟨rfl, rfl, rfl⟩, fun _ => rfl, fun _ => rfl, Queue.unreadLosses_lose, hfill,
      fun he hp _ => ?_⟩
    rcases hkeep with h | h
    · exact absurd (he.symm.trans h) (by decide)
    · exact absurd (hp.symm.trans h) (by decide)
  · subst ha
    rw [heq] at hfill ⊢
    obtain ⟨behind, target, lost, epoch, hsplit⟩ := q.exists_splitsAs (q.need (epochOf stamp) b)
    obtain ⟨removed, merged, rest, e, hbehind, hreached, hminimal, h35, h2013, hmerge, hafter, hhead, hrecords, hstream, hlost,
      hunread, hlength⟩ := Queue.admitOne_evicting hlaw hepoch hb hfull _ rfl hsplit
    refine ⟨dataCount removed, hlength, fun _ => ⟨hstream, hlost⟩, nofun, fun h => ?_, fun _ => rfl, hunread, hfill,
      fun _ _ _ => ⟨rfl, rfl, fun behind' target' lost' epoch' hsplit' => ?_⟩⟩
    · rcases h with h | h | h
      · exact absurd (hevict.symm.trans h) (by decide)
      · exact absurd (hpinned.symm.trans h) (by decide)
      · exact absurd h (not_le.2 hfull)
    · obtain ⟨rfl, rfl, rfl, rfl⟩ := hsplit.unique hsplit'
      exact ⟨removed, merged, rest, e, hbehind, hreached, hminimal, h35, h2013, hmerge, rfl, hafter, hhead, hrecords⟩

/-! ### Groups (R115) -/

/-- One record after the other. -/
def Queue.admitNext (evict pinned : Bool) (stamp : Long) (u : Queue) (b : Body) : Queue := (u.admitOne evict pinned stamp b).queue

theorem Queue.admitGroup_fst (q : Queue) (bs : List Body) :
    (q.admitGroup evict pinned stamp bs).1 = bs.foldl (Queue.admitNext evict pinned stamp) q := by
  induction bs generalizing q with
  | nil => rfl
  | cons b bs ih => exact ih _

theorem Queue.admitGroup_snd_iff (q : Queue) (bs : List Body) : (q.admitGroup evict pinned stamp bs).2 = true ↔
    ∃ before b behind, bs = before ++ b :: behind
      ∧ ((before.foldl (Queue.admitNext evict pinned stamp) q).admitOne evict pinned stamp b).loss = true := by
  induction bs generalizing q with
  | nil => simp [Queue.admitGroup]
  | cons b bs ih =>
    change ((q.admitOne evict pinned stamp b).loss
      || ((q.admitOne evict pinned stamp b).queue.admitGroup evict pinned stamp bs).2) = true ↔ _
    rw [Bool.or_eq_true, ih]
    constructor
    · rintro (h | ⟨before, x, behind, rfl, h⟩)
      · exact ⟨[], b, bs, rfl, h⟩
      · exact ⟨b :: before, x, behind, rfl, h⟩
    · rintro ⟨before, x, behind, hbs, h⟩
      cases before with
      | nil => cases hbs; exact .inl h
      | cons y before => cases hbs; exact .inr ⟨before, x, behind, rfl, h⟩

/-- A group's records are written or lost one by one, in order. -/
theorem Queue.group_heldOrCounted (hlaw : q.law) (hepoch : q.epochLaw) (bs : List Body) (hbs : ∀ b ∈ bs, b.size ≤ 13) :
    ∃ (written : List Body) (k : Nat), written.Sublist bs
      ∧ (q.admitGroup evict pinned stamp bs).1.stream
        = (q.stream ++ written.map fun b => (some (epochOf stamp), b, lowStamp stamp)).drop k
      ∧ (q.admitGroup evict pinned stamp bs).1.lossTotal
        = min 4294967295 (q.lossTotal + k + (bs.length - written.length)) := by
  induction bs generalizing q with
  | nil => exact ⟨[], 0, .slnil, by simp [Queue.admitGroup], (satTotal_of_le hlaw.2.2.2.2).symm⟩
  | cons b bs ih =>
    have hb := hbs b (by simp)
    obtain ⟨k, hk, hwritten, hlost, -⟩ := Queue.record_heldOrCounted hlaw hepoch hb evict pinned _ rfl (stamp := stamp)
    obtain ⟨written, k', hsub, hstream, htotal⟩ := ih (Queue.law_admitOne hlaw hb (evict := evict) (pinned := pinned))
      (Queue.epochLaw_admitOne hepoch hb) fun b' hb' => hbs b' (by simp [hb'])
    have hlength := hsub.length_le
    change ∃ written k, _ ∧ ((q.admitOne evict pinned stamp b).queue.admitGroup evict pinned stamp bs).1.stream = _
      ∧ ((q.admitOne evict pinned stamp b).queue.admitGroup evict pinned stamp bs).1.lossTotal = _
    rw [hstream, htotal]
    cases hw : (q.admitOne evict pinned stamp b).written with
    | true =>
      obtain ⟨hs, ht⟩ := hwritten hw
      refine ⟨b :: written, k + k', hsub.cons_cons b, ?_, ?_⟩
      · rw [hs, List.append_assoc, ← List.drop_drop, List.drop_append_of_le_length hk]
        rfl
      · rw [ht, List.length_cons, List.length_cons]
        omega
    | false =>
      obtain ⟨-, hs, ht⟩ := hlost hw
      refine ⟨written, k', hsub.cons b, by rw [hs], ?_⟩
      rw [ht, List.length_cons]
      omega

/-- Settles O60. -/
theorem everyRecordIsHeldOrCounted : Obligations.EveryRecordIsHeldOrCounted := by
  refine fun q evict pinned stamp hlaw hepoch => ⟨fun b hb a ha epoch hep front hfront need hneed => ?record,
    fun bs hbs r hr => ⟨fun next hnext => ?fold, ?group⟩⟩
  case record =>
    subst hep
    obtain rfl : front = q.front (epochOf stamp) := hfront.trans (q.front_eq_match _).symm
    subst hneed
    exact Queue.record_heldOrCounted hlaw hepoch hb evict pinned a ha
  case fold =>
    subst hnext hr
    exact ⟨q.admitGroup_fst bs, q.admitGroup_snd_iff bs⟩
  case group =>
    subst hr
    exact Queue.group_heldOrCounted hlaw hepoch bs hbs

end

end Sys2Proof.Machine
end

section
/-! PROOFS. What a command can do to the Record Queue, and the laws it therefore keeps (R110 to R128). -/

namespace Sys2Proof.Machine

/-! ### A group handed over is within the sizes of R111 -/

section
variable {s : State} {p : PollWork} {o : WorkOutcome} {data : List Byte}

theorem Entry.report_length {e : Entry} {v : Int} {x : Bool × List Byte} (hdata : data.length ≤ 8)
    (hx : (e.report v data).2 = some x) : x.2.length ≤ 8 := by
  obtain ⟨reduced, ds⟩ := x
  cases hmode : e.d.mode with
  | always => rw [Entry.report_always hmode] at hx; cases hx; exact hdata
  | onChange => cases Entry.report_onChange_data hmode hx; exact hdata
  | silent => rw [Entry.report_silent hmode] at hx; cases hx
  | mean =>
    simp only [Entry.report, hmode] at hx
    split at hx <;> cases hx
    exact (by decide : 2 ≤ 8)

theorem Entry.size_process (e : Entry) (g : Target) (hdata : data.length ≤ 8) :
    ∀ b ∈ (e.process p g o data).records, b.size ≤ 13 := by
  intro b hb
  unfold Entry.process at hb
  split at hb
  · simp only [Entry.succeed, List.mem_append, Option.mem_toList, Option.map_eq_some_iff] at hb
    rcases hb with ⟨x, hx, rfl⟩ | ⟨x, -, rfl⟩
    · exact Nat.add_le_add_left (Entry.report_length hdata hx) 5
    · exact (by decide : 7 ≤ 13)
  · simp only [Entry.failPoll, Option.mem_toList, Option.map_eq_some_iff] at hb
    obtain ⟨c, -, rfl⟩ := hb
    exact (by decide : 7 ≤ 13)

theorem State.size_pollRecords (hdata : data.length ≤ 8) : ∀ b ∈ s.pollRecords p o data, b.size ≤ 13 := by
  intro b hb
  simp only [State.pollRecords, List.mem_append] at hb
  rcases hb with (hb | hb) | hb
  · unfold restoredRecords at hb
    split at hb
    · rw [List.mem_singleton.1 hb]; exact (by decide : 7 ≤ 13)
    · cases hb
  · exact Entry.size_process _ _ hdata b hb
  · split at hb
    · simp only [State.droppedRecords, List.mem_map] at hb
      obtain ⟨n, -, rfl⟩ := hb
      exact (by decide : 7 ≤ 13)
    · cases hb

theorem State.size_holdRecords (k : TargetNo) : ∀ b ∈ s.holdRecords k, b.size ≤ 13 := by
  intro b hb
  simp only [State.holdRecords, List.mem_cons, List.mem_map] at hb
  rcases hb with rfl | ⟨n, -, rfl⟩ <;> exact (by decide : 7 ≤ 13)

end

/-! ### Records handed over, and nothing else of the queue -/

/-- From s to t, groups of records were handed to the queue at s's stamp, overflow mode and pin, and nothing else. -/
def State.admitsOnly (s t : State) : Prop :=
  t.ctrl = s.ctrl ∧ t.port = s.port ∧ t.elapsed = s.elapsed ∧ ∃ bs : List Body, (∀ b ∈ bs, b.size ≤ 13)
    ∧ t.queue = (s.queue.admitGroup s.ctrl.evict s.port.pinned s.stamp bs).1

section
variable {s t u : State} {x : Segment} {w : Work} {o : WorkOutcome} {data : List Byte}

theorem State.admitsOnly.refl (s : State) : s.admitsOnly s := ⟨rfl, rfl, rfl, [], nofun, rfl⟩

theorem State.admitsOnly.trans (h : s.admitsOnly t) (h' : t.admitsOnly u) : s.admitsOnly u := by
  obtain ⟨hctrl, hport, helapsed, bs, hbs, hqueue⟩ := h
  obtain ⟨hctrl', hport', helapsed', bs', hbs', hqueue'⟩ := h'
  have hstamp : t.stamp = s.stamp := by simp only [State.stamp, helapsed]
  refine ⟨hctrl'.trans hctrl, hport'.trans hport, helapsed'.trans helapsed, bs ++ bs', fun b hb => ?_, ?_⟩
  · exact (List.mem_append.1 hb).elim (hbs b) (hbs' b)
  · rw [hqueue', hqueue, hctrl, hport, hstamp, Queue.admitGroup_fst, Queue.admitGroup_fst, Queue.admitGroup_fst,
      List.foldl_append]

/-- What moves neither the queue nor what an admission reads. -/
theorem State.admitsOnly.of_eq (hctrl : t.ctrl = s.ctrl) (hport : t.port = s.port) (helapsed : t.elapsed = s.elapsed)
    (hqueue : t.queue = s.queue) : s.admitsOnly t := ⟨hctrl, hport, helapsed, [], nofun, hqueue⟩

theorem admitRecords_admitsOnly {bs : List Body} (hbs : ∀ b ∈ bs, b.size ≤ 13) : s.admitsOnly (admitRecords bs s) :=
  ⟨rfl, rfl, rfl, bs, hbs, rfl⟩

theorem modSeg_admitsOnly (g : Seg → Seg) : s.admitsOnly (s.modSeg x g) := .of_eq (by simp) (by simp) (by simp) (by simp)

theorem Work.reads_le_of_poll (p : PollWork) : (Work.poll p).xfer.reads ≤ 8 := Nat.le_of_lt_succ p.length.isLt

theorem finishWork_admitsOnly (st : EngineState) (hdata : data.length ≤ w.xfer.reads) :
    s.admitsOnly (finishWork x w o data st s) := by
  have hreleased : s.admitsOnly (releaseEngine x st s) := .of_eq (by simp) (by simp) (by simp) (by simp)
  refine hreleased.trans ?_
  cases w with
  | raw r =>
    change (releaseEngine x st s).admitsOnly (finishRaw r o data (releaseEngine x st s))
    exact .of_eq (by simp) (by simp) (by simp) (by simp)
  | poll p =>
    change (releaseEngine x st s).admitsOnly (endProcessing p (processCompletion p o data (releaseEngine x st s)))
    have hprocessed : (releaseEngine x st s).admitsOnly (processCompletion p o data (releaseEngine x st s)) :=
      ⟨by simp, by simp, by simp, _, State.size_pollRecords (hdata.trans (Work.reads_le_of_poll p)),
        processCompletion_queue ..⟩
    exact hprocessed.trans (.of_eq (by simp) (by simp) (by simp) (by simp))

theorem faultSegment_admitsOnly (g : Seg → Seg) : s.admitsOnly (faultSegment x g s) := by
  have hemptied : s.admitsOnly (s.emptied x g) :=
    .of_eq (by simp [State.emptied]) (by simp [State.emptied]) (by simp [State.emptied]) (by simp [State.emptied])
  have hstuck (v : State) (ow : Option Work) : v.admitsOnly (endStuckWork x ow v) := by
    unfold endStuckWork
    split
    · exact finishWork_admitsOnly _ (Nat.zero_le _)
    · exact .of_eq (by simp) (by simp) (by simp) (by simp)
  have hwithdrawn (v : State) : v.admitsOnly (withdrawRaw x v) := .of_eq (by simp) (by simp) (by simp) (by simp)
  have hreported (v : State) : v.admitsOnly (admitRecords [busStuckRecord x] v) :=
    admitRecords_admitsOnly fun b hb => by rw [List.mem_singleton.1 hb]; exact (by decide : 7 ≤ 13)
  exact (((hemptied.trans (hstuck _ _)).trans (hwithdrawn _)).trans (hreported _)).trans (.of_eq rfl rfl rfl rfl)

theorem endDrain_admitsOnly : s.admitsOnly (endDrain s) := by
  rw [endDrain_frame]
  exact .of_eq rfl rfl rfl rfl

/-- A command that can end work hands its records over, and does nothing else to the queue. -/
theorem WorkEvent.admitsOnly (h : WorkEvent s t) : s.admitsOnly t := by
  cases h with
  | nothing => exact .refl s
  | goesOn x g => exact modSeg_admitsOnly g
  | ends x w o data g _ _ _ _ hdata => exact (modSeg_admitsOnly g).trans (finishWork_admitsOnly _ hdata)
  | faults x g => exact (faultSegment_admitsOnly g).trans endDrain_admitsOnly

end

/-! ### Every command -/

/-- The commands that can release the head record. -/
def releases (c : Instr) : Prop := c = .queueDataByteComplete

/-- The commands that can empty the queue. -/
def empties (c : Instr) : Prop := c = .flush ∨ c = .hardReset ∨ c = .transactionEnd ∨ c = .softResetEffect

/-- What a command can do to the queue: hand records over, release the head record, or empty it. -/
def State.queueMoves (s t : State) (c : Instr) : Prop :=
  (∃ bs : List Body, (∀ b ∈ bs, b.size ≤ 13) ∧ t.queue = (s.queue.admitGroup s.ctrl.evict s.port.pinned s.stamp bs).1)
    ∨ (releases c ∧ t.queue = s.queue.release) ∨ (empties c ∧ t.queue = Queue.reset)

section
variable {s t : State} {c : Instr}

theorem State.admitsOnly.queueMoves (h : s.admitsOnly t) : s.queueMoves t c := .inl h.2.2.2

theorem State.queueMoves.of_queue_eq (h : t.queue = s.queue) : s.queueMoves t c := .inl ⟨[], nofun, h⟩

theorem command_queueMoves {code : Byte} {f : State → State}
    (hf : s.cu.wait = none → s.queueMoves (f (takeCode code s)) c) (h : command code f s = .next t) : s.queueMoves t c := by
  rcases command_cases h with rfl | ⟨htakes, rfl⟩ | ⟨-, -, rfl⟩
  · exact .of_queue_eq rfl
  · exact hf htakes.2
  · exact .of_queue_eq rfl

/-- A command on an enabled target hands over the records of its operation. -/
theorem onEnabledTarget_admitsOnly {f : TargetNo → State → State} (hf : ∀ k, s.admitsOnly (f k s)) :
    s.admitsOnly (onEnabledTarget f s) := by
  unfold onEnabledTarget
  split
  · exact .of_eq rfl rfl rfl rfl
  · split
    · exact (hf _).trans (.of_eq rfl rfl rfl rfl)
    · exact .of_eq rfl rfl rfl rfl

theorem holdTarget_admitsOnly (k : TargetNo) : s.admitsOnly (holdTarget k s) :=
  ⟨by simp [holdTarget], by simp [holdTarget], by simp [holdTarget], _, State.size_holdRecords k, holdTarget_queue s k⟩

theorem releaseTarget_admitsOnly (k : TargetNo) : s.admitsOnly (releaseTarget k s) :=
  ⟨rfl, rfl, rfl, releaseRecords k, fun b hb => by rw [List.mem_singleton.1 hb]; exact (by decide : 7 ≤ 13), rfl⟩

theorem takeCode_admitsOnly (code : Byte) : s.admitsOnly (takeCode code s) := .of_eq rfl rfl rfl rfl

theorem endTransaction_queue : (endTransaction s).queue = if s.host.resetRequested = true then Queue.reset else s.queue := by
  unfold endTransaction
  dsimp only
  split <;> rfl

theorem recordByteRead_queue_cases (s : State) :
    (recordByteRead s).queue = s.queue ∨ (recordByteRead s).queue = s.queue.release := by
  unfold recordByteRead
  split
  · exact .inl rfl
  · split
    · exact .inl rfl
    · exact .inr rfl

theorem execQueueDataByteComplete_queueMoves (h : execQueueDataByteComplete s = .next t) :
    s.queueMoves t .queueDataByteComplete := by
  rcases running_cases h with ⟨-, rfl⟩ | ⟨-, rfl⟩
  · exact .of_queue_eq rfl
  · split
    · exact .of_queue_eq rfl
    · next b hb =>
      dsimp only
      split
      · exact .of_queue_eq rfl
      · exact .of_queue_eq rfl
      · exact (recordByteRead_queue_cases { s with host := { s.host with byteOut := none } }).elim .of_queue_eq
          fun h => .inr (.inl ⟨rfl, h⟩)

/-- What every command can do to the queue. -/
theorem exec_queueMoves (h : exec c s = .next t) : s.queueMoves t c := by
  by_cases hc : endsWork c = true
  · exact (exec_workEvent hc h).admitsOnly.queueMoves
  cases c with
  | hardReset => cases h; exact .inr (.inr ⟨.inr (.inl rfl), rfl⟩)
  | transactionEnd | softResetEffect =>
    cases h
    unfold whenever
    split
    · by_cases hreset : s.host.resetRequested = true
      · exact .inr (.inr ⟨by simp [empties], by rw [endTransaction_queue, if_pos hreset]⟩)
      · exact .of_queue_eq (by rw [endTransaction_queue, if_neg hreset])
    · exact .of_queue_eq rfl
  | queueDataByteComplete => exact execQueueDataByteComplete_queueMoves h
  | mark =>
    change execMark s = _ at h
    refine command_queueMoves (fun _ => ?_) h
    exact .inl ⟨[.mark s.cu.arg], fun b hb => by rw [List.mem_singleton.1 hb]; exact (by decide : 4 ≤ 13), rfl⟩
  | flush =>
    change execFlush s = _ at h
    exact command_queueMoves (fun _ => .inr (.inr ⟨.inl rfl, rfl⟩)) h
  | targetHold =>
    change execTargetHold s = _ at h
    refine command_queueMoves (fun _ => ((takeCode_admitsOnly _).trans (onEnabledTarget_admitsOnly fun k => ?_)).queueMoves) h
    split
    · exact .refl _
    · exact holdTarget_admitsOnly k
  | targetRelease =>
    change execTargetRelease s = _ at h
    refine command_queueMoves (fun _ => ((takeCode_admitsOnly _).trans (onEnabledTarget_admitsOnly fun k => ?_)).queueMoves) h
    split
    · exact .refl _
    · exact releaseTarget_admitsOnly k
  | completion | deferredLoadEnd | rawTransferCompletion | stretchTimeout | arbitrationLoss | foreignStartSeen
  | busClearFail => exact absurd rfl hc
  | _ => exact .of_queue_eq (exec_same (p := .queue) h rfl)

/-- A property of the queue that admissions, the release of the head record and the empty queue keep, every command keeps. -/
theorem exec_keeps_queue {Q : Queue → Prop} (hone : ∀ evict pinned stamp (q : Queue) (b : Body), Q q → b.size ≤ 13 →
      Q (q.admitOne evict pinned stamp b).queue) (hrelease : ∀ q : Queue, Q q → Q q.release) (hreset : Q Queue.reset)
    (hs : Q s.queue) (h : exec c s = .next t) : Q t.queue := by
  rcases exec_queueMoves h with ⟨bs, hbs, hq⟩ | ⟨-, hq⟩ | ⟨-, hq⟩ <;> rw [hq]
  · exact Queue.admitGroup_keeps (hone _ _ _) bs hbs hs
  · exact hrelease _ hs
  · exact hreset

end

/-! ### The laws of the queue -/

theorem Queue.release_nil {q : Queue} (hq : q.records = []) : q.release = q := by
  unfold Queue.release
  rw [hq]

theorem Queue.law_release (q : Queue) (h : q.law) : q.release.law := by
  cases hq : q.records with
  | nil => rw [Queue.release_nil hq]; exact h
  | cons r rest =>
    obtain ⟨hfill, hsound, hsucc, hpending, htotal⟩ := h
    rw [Queue.release_cons hq]
    rw [hq] at hsound hsucc
    have hfill' : q.fill = r.size + sizes rest := by simp [Queue.fill, hq, sizes]
    refine ⟨?_, fun r' hr' => hsound r' (List.mem_cons_of_mem _ hr'), successionOk_tail _ _ hsucc, hpending, htotal⟩
    change sizes rest ≤ _
    omega

/-- The empty queue keeps its law. -/
theorem Queue.law_reset : Queue.reset.law := ⟨Nat.zero_le _, nofun, rfl, Nat.zero_le _, Nat.zero_le _⟩

theorem Queue.epochLaw_release (q : Queue) (h : q.epochLaw) : q.release.epochLaw := by
  cases hq : q.records with
  | nil => rw [Queue.release_nil hq]; exact h
  | cons r rest =>
    obtain ⟨htail, hhead⟩ := h
    rw [Queue.release_cons hq]
    rw [hq] at htail hhead
    refine ⟨htail, fun hnone => absurd (hhead ?_ r rfl) ?_⟩
    · exact (Option.or_eq_none_iff.1 hnone).2
    · cases r with
      | data b st => simp [Record.isData]
      | time e => cases hnone
      | gap l e => cases hnone

theorem Queue.epochLaw_reset : Queue.reset.epochLaw := ⟨rfl, nofun⟩

/-- Settles O6: an admission, a release and an empty queue keep the law. -/
theorem recordQueueLawIsKept : Obligations.RecordQueueLawIsKept := fun _ _ hs h =>
  step_keeps (L := fun s => s.queue.law) (fun _ _ hs => hs) (fun _ _ _ => exec_keeps_queue
    (fun _ _ _ _ _ => Queue.law_admitOne) Queue.law_release Queue.law_reset) hs h

/-- Settles O7: an admission, a release and an empty queue keep the law. -/
theorem epochLawIsKept : Obligations.EpochLawIsKept := fun _ _ hs h =>
  step_keeps (L := fun s => s.queue.epochLaw) (fun _ _ hs => hs) (fun _ _ _ => exec_keeps_queue
    (fun _ _ _ _ _ => Queue.epochLaw_admitOne) Queue.epochLaw_release Queue.epochLaw_reset) hs h

end Sys2Proof.Machine
end

section
/-! PROOFS. The agreement of cursor, pin, burst and framing (R132 to R137, R168). -/

namespace Sys2Proof.Machine

section
variable {s t : State} {a : RegAddr} {f : State → State} {code : Byte}

/-! ### Outside a read run the Read Port is at rest -/

/-- No burst is open, no data byte is being shifted out, and the Read Port is as after a reset. -/
def State.atRest (s : State) : Prop := s.host.burstOpen = false ∧ s.host.byteOut = none ∧ s.port = ReadPort.reset

theorem State.readPortLaw.closed (h : s.readPortLaw) (hburst : s.host.burstOpen = false) : s.port = ReadPort.reset := by
  obtain ⟨hcursor, hpin, -⟩ := h
  have hpinned : s.port.pinned = false := by
    cases hp : s.port.pinned with
    | false => rfl
    | true => rw [(hpin hp).1] at hburst; cases hburst
  have hzero := hcursor hpinned
  generalize s.port = port at hpinned hzero
  obtain ⟨cursor, pinned⟩ := port
  cases hpinned
  cases hzero
  rfl

theorem State.readPortLaw.atRest (h : s.readPortLaw) (hf : s.host.framing ≠ .readRun) : s.atRest := by
  obtain ⟨-, -, hburst, -, hbyte⟩ := id h
  have hclosed : s.host.burstOpen = false := by
    by_contra hopen
    exact hf (hburst (by simpa using hopen)).1
  refine ⟨hclosed, ?_, h.closed hclosed⟩
  cases hb : s.host.byteOut with
  | none => rfl
  | some b => exact absurd (hbyte b hb).1 hf

theorem State.atRest.readPortLaw (h : s.atRest) (hcsn : s.host.framing ≠ .noTransaction → s.host.csnLow = true) :
    s.readPortLaw := by
  obtain ⟨hburst, hbyte, hport⟩ := h
  refine ⟨fun _ => by rw [hport]; rfl, fun hp => ?_, fun hb => ?_, hcsn, fun b hb => ?_⟩
  · rw [hport] at hp; cases hp
  · rw [hburst] at hb; cases hb
  · rw [hbyte] at hb; cases hb

/-! ### A byte written is written outside a read run -/

theorem writeByte_writeRun (h : writeByte a f s = .next t) : t = s ∨ s.host.framing = .writeRun :=
  (writeByte_cases h).imp_right fun hw => hw.1.framing

theorem command_writeRun (h : command code f s = .next t) : t = s ∨ s.host.framing = .writeRun := writeByte_writeRun h

/-- A command that writes a code is a byte written at CMD (R147). -/
theorem exec_isCommand {c : Instr} (hc : c ∈ codeCommands) : ∃ code f, exec c s = command code f s := by
  simp only [codeCommands, List.mem_cons, List.not_mem_nil, or_false] at hc
  rcases hc with rfl | rfl | rfl | rfl | rfl | rfl | rfl | rfl | rfl | rfl | rfl | rfl
  · exact ⟨_, _, execStart.eq_1 s⟩
  · exact ⟨_, _, execStop.eq_1 s⟩
  · exact ⟨_, _, execEntryLoad.eq_1 s⟩
  · exact ⟨_, _, execEntryFetch.eq_1 s⟩
  · exact ⟨_, _, execTargetLoad.eq_1 s⟩
  · exact ⟨_, _, execTargetFetch.eq_1 s⟩
  · exact ⟨_, _, execPollNow.eq_1 s⟩
  · exact ⟨_, _, execTargetRelease.eq_1 s⟩
  · exact ⟨_, _, execTargetHold.eq_1 s⟩
  · exact ⟨_, _, execRawTransfer.eq_1 s⟩
  · exact ⟨_, _, execMark.eq_1 s⟩
  · exact ⟨_, _, execFlush.eq_1 s⟩

theorem exec_code_writeRun {c : Instr} (hc : c ∈ codeCommands) (h : exec c s = .next t) : t = s ∨ s.host.framing = .writeRun := by
  obtain ⟨code, f, hf⟩ := exec_isCommand (s := s) hc
  exact command_writeRun (hf ▸ h)

theorem whenever_writeRun {c : Bool} (h : running s (whenever ((s.host.framing == .writeRun) && c) f) = .next t) :
    t = s ∨ s.host.framing = .writeRun := by
  rcases running_cases h with ⟨-, rfl⟩ | ⟨-, rfl⟩
  · exact .inl rfl
  · cases hf : (s.host.framing == .writeRun) with
    | false => exact .inl rfl
    | true => exact .inr (by simpa using hf)

/-- What moves neither the framing, nor a byte shifted out, nor the Read Port keeps the law where no read run is in
progress. -/
theorem readPortLaw_of_writeRun (hs : s.readPortLaw) (h : t = s ∨ s.host.framing = .writeRun) (hframing : s.same t .framing)
    (hbyte : s.same t .byteOut) (hport : s.same t .port) : t.readPortLaw := by
  rcases h with rfl | hwrite
  · exact hs
  · obtain ⟨hf, hburst, hcsn⟩ := hframing
    obtain ⟨hburst', hbyte', hport'⟩ := hs.atRest (by rw [hwrite]; decide)
    refine State.atRest.readPortLaw ⟨hburst.trans hburst', Eq.trans hbyte hbyte', Eq.trans hport hport'⟩ ?_
    rw [hf, hcsn]
    exact hs.2.2.2.1

/-! ### A pinned head stays -/

theorem Queue.head_admitOne {q : Queue} {r : Record} (evict : Bool) (stamp : Long) (b : Body) (h : q.records.head? = some r) :
    (q.admitOne evict true stamp b).queue.records.head? = some r := by
  rcases q.admitOne_cases evict true stamp b with ⟨-, heq⟩ | ⟨-, -, heq⟩ | ⟨-, -, hpinned, -⟩
  · rw [heq]
    dsimp only
    rw [Queue.write_records, List.head?_append, h]
    rfl
  · rw [heq]; exact h
  · cases hpinned

theorem Queue.head_admitGroup {q : Queue} {r : Record} (evict : Bool) (stamp : Long) (bs : List Body)
    (h : q.records.head? = some r) : (q.admitGroup evict true stamp bs).1.records.head? = some r := by
  induction bs generalizing q with
  | nil => exact h
  | cons b bs ih => exact ih (Queue.head_admitOne evict stamp b h)

theorem State.queueMoves.head {c : Instr} {r : Record} (h : s.queueMoves t c) (hc : ¬ releases c) (hc' : ¬ empties c)
    (hpinned : s.port.pinned = true) (hr : s.queue.records.head? = some r) : t.queue.records.head? = some r := by
  rcases h with ⟨bs, -, hq⟩ | ⟨hrel, -⟩ | ⟨hemp, -⟩
  · rw [hq, hpinned]; exact Queue.head_admitGroup _ _ bs hr
  · exact absurd hrel hc
  · exact absurd hemp hc'

/-- What leaves the Host Port and the Read Port alone and keeps a pinned head keeps the law. -/
theorem readPortLaw_of_head (hs : s.readPortLaw) (hpointer : s.same t .pointer) (hframing : s.same t .framing)
    (hbyte : s.same t .byteOut) (hport : s.same t .port)
    (hhead : s.port.pinned = true → ∀ r, s.queue.records.head? = some r → t.queue.records.head? = some r) : t.readPortLaw := by
  obtain ⟨hcursor, hpin, hburst, hcsn, hout⟩ := hs
  obtain ⟨hf, hb, hc⟩ := hframing
  change t.host.pointer = _ at hpointer
  change t.host.byteOut = _ at hbyte
  change t.port = _ at hport
  unfold State.readPortLaw
  rw [hpointer, hbyte, hport, hf, hb, hc]
  refine ⟨hcursor, fun hp => ?_, hburst, hcsn, hout⟩
  obtain ⟨hopen, r, hr, hlt⟩ := hpin hp
  exact ⟨hopen, r, hhead hp r hr, hlt⟩

/-! ### The framing events and the data bytes -/

theorem hardReset_readPortLaw (h : exec .hardReset s = .next t) : t.readPortLaw := by
  cases h
  exact State.atRest.readPortLaw ⟨rfl, rfl, rfl⟩ fun hf => absurd rfl hf

theorem endTransaction_atRest : (endTransaction s).atRest ∧ (endTransaction s).host.framing = .noTransaction := by
  unfold endTransaction
  dsimp only
  split <;> exact ⟨⟨rfl, rfl, rfl⟩, rfl⟩

theorem whenever_endTransaction_readPortLaw (c : Bool) (hs : s.readPortLaw) : (whenever c endTransaction s).readPortLaw := by
  cases c with
  | false => exact hs
  | true =>
    obtain ⟨hrest, hf⟩ := endTransaction_atRest (s := s)
    exact hrest.readPortLaw fun hne => absurd hf hne

theorem transactionOpen_readPortLaw (hs : s.readPortLaw) (h : execTransactionOpen s = .next t) : t.readPortLaw := by
  cases h
  cases hcsn : s.host.csnLow with
  | true => exact hs
  | false =>
    have hf : s.host.framing = .noTransaction := by
      by_contra hne
      rw [hs.2.2.2.1 hne] at hcsn
      cases hcsn
    obtain ⟨hburst, hbyte, hport⟩ := hs.atRest (by rw [hf]; decide)
    exact State.atRest.readPortLaw ⟨hburst, hbyte, hport⟩ fun _ => rfl

theorem commandByte_readPortLaw {b : Byte} (hs : s.readPortLaw) (h : execCommandByte b s = .next t) : t.readPortLaw := by
  rcases running_cases h with ⟨-, rfl⟩ | ⟨-, rfl⟩
  · exact hs
  · unfold whenever
    split
    · next hf =>
      have hf : s.host.framing = .awaitingCommand := by simpa using hf
      obtain ⟨hburst, hbyte, hport⟩ := hs.atRest (by rw [hf]; decide)
      exact State.atRest.readPortLaw ⟨hburst, hbyte, hport⟩ fun _ => hs.2.2.2.1 (by rw [hf]; decide)
    · exact hs

/-- A data byte starts only in a read run, and not while a byte of QUEUE_DATA is being shifted out. -/
theorem State.nextRead_eq_some {p : RegAddr} (h : s.nextRead = some p) : s.host.framing = .readRun
    ∧ ((s.host.byteOut = none ∧ p = s.host.pointer)
      ∨ ∃ b, s.host.byteOut = some b ∧ b.source = .register ∧ p = nextPointer s.host.pointer) := by
  unfold State.nextRead at h
  split at h
  · next hf =>
    refine ⟨hf, ?_⟩
    split at h
    · next hb => cases h; exact .inl ⟨hb, rfl⟩
    · next b hb =>
      split at h
      · next hreg => cases h; exact .inr ⟨b, hb, hreg, rfl⟩
      · cases h
  · cases h

/-- In an open burst the next byte to start is one of QUEUE_DATA. -/
theorem State.readPortLaw.nextRead_of_open (hs : s.readPortLaw) (hopen : s.host.burstOpen = true) {p : RegAddr}
    (h : s.nextRead = some p) : p = 0x1C#7 := by
  obtain ⟨-, -, hburst, -, hbyte⟩ := hs
  obtain ⟨-, hp⟩ := hburst hopen
  obtain ⟨-, ⟨-, rfl⟩ | ⟨b, hb, hreg, rfl⟩⟩ := State.nextRead_eq_some h
  · exact hp
  · rw [hp]; rfl

theorem State.readsAt_iff : s.readsAt a = true ↔ ∃ p, s.nextRead = some p ∧ runsTo 127 p a = true := by
  unfold State.readsAt
  cases s.nextRead <;> simp

theorem runsTo_of_queueData (k : Nat) : runsTo k 0x1C#7 a = true ↔ a = 0x1C#7 := by
  have hself : runsTo k 0x1C#7 a = (0x1C#7 == a) := by
    cases k <;> simp only [runsTo, readHasEffect, beq_self_eq_true, Bool.or_true, Bool.not_true, Bool.false_and, Bool.or_false]
  rw [hself, beq_iff_eq, eq_comm]

/-- A register's byte starts in a read run that has no burst open, at an address other than QUEUE_DATA. -/
theorem State.readPortLaw.readStart (hs : s.readPortLaw) {c : ReadByte} (h : s.readStart c = some a) :
    s.host.framing = .readRun ∧ s.host.burstOpen = false ∧ a ≠ 0x1C#7 := by
  have hstart : ∃ p, s.nextRead = some p ∧ (p = 0x1C#7 → a = 0x1C#7) ∧ a ≠ 0x1C#7 := by
    have hcounter {b : RegAddr} (hb : b ≠ 0x1C#7) (h : (if s.readsAt b then some b else none) = some a) :
        ∃ p, s.nextRead = some p ∧ (p = 0x1C#7 → a = 0x1C#7) ∧ a ≠ 0x1C#7 := by
      split at h
      · next hreads =>
        cases h
        obtain ⟨p, hp, hruns⟩ := State.readsAt_iff.1 hreads
        exact ⟨p, hp, fun hq => (runsTo_of_queueData 127).1 (hq ▸ hruns), hb⟩
      · cases h
    cases c with
    | stamp => exact hcounter (by decide) h
    | fill => exact hcounter (by decide) h
    | lossTotal => exact hcounter (by decide) h
    | plain =>
      obtain ⟨hp, hplain⟩ := Option.filter_eq_some_iff.1 h
      refine ⟨a, hp, id, ?_⟩
      rintro rfl
      cases hplain
  obtain ⟨p, hp, hforces, hne⟩ := hstart
  refine ⟨(State.nextRead_eq_some hp).1, ?_, hne⟩
  by_contra hopen
  exact hne (hforces (hs.nextRead_of_open (by simpa using hopen) hp))

theorem snapshotLatch_readPortLaw {c : ReadByte} (hs : s.readPortLaw) (h : execSnapshotLatch c s = .next t) :
    t.readPortLaw := by
  rcases running_cases h with ⟨-, rfl⟩ | ⟨-, rfl⟩
  · exact hs
  · split
    · exact hs
    · next a ha =>
      obtain ⟨hf, hburst, hne⟩ := hs.readStart ha
      have hport := hs.closed hburst
      have hcsn := hs.2.2.2.1
      have hlatch : (latchCounter c s).host.framing = s.host.framing
          ∧ (latchCounter c s).host.burstOpen = s.host.burstOpen ∧ (latchCounter c s).host.csnLow = s.host.csnLow
          ∧ (latchCounter c s).port = s.port := by cases c <;> exact ⟨rfl, rfl, rfl, rfl⟩
      obtain ⟨hf', hburst', hcsn', hport'⟩ := hlatch
      rw [hport] at hport'
      unfold State.readPortLaw
      dsimp only
      rw [hf', hburst', hcsn', hport', hburst]
      refine ⟨fun _ => rfl, nofun, nofun, hcsn, fun b hb => ?_⟩
      cases hb
      exact ⟨hf, by rw [if_pos rfl]; exact hne, nofun⟩

theorem queueDataByteStart_readPortLaw (hs : s.readPortLaw) (h : execQueueDataByteStart s = .next t) : t.readPortLaw := by
  rcases running_cases h with ⟨-, rfl⟩ | ⟨-, rfl⟩
  · exact hs
  · unfold whenever
    split
    · next hreads =>
      obtain ⟨p, hp, -⟩ := State.readsAt_iff.1 hreads
      obtain ⟨hf, -⟩ := State.nextRead_eq_some hp
      obtain ⟨hcursor, hpin, -, hcsn, -⟩ := hs
      refine ⟨fun hunpinned => hcursor ?_, fun hpinned => ⟨rfl, ?_⟩, fun _ => ⟨hf, rfl⟩, hcsn, ?_⟩
      · exact (Bool.or_eq_false_iff.1 hunpinned).1
      · cases hq : s.queue.records with
        | nil =>
          have hold : s.port.pinned = true := by simpa [hq] using hpinned
          obtain ⟨-, r, hr, -⟩ := hpin hold
          rw [hq] at hr
          cases hr
        | cons r rest =>
          refine ⟨r, rfl, ?_⟩
          cases hold : s.port.pinned with
          | false => exact (hcursor hold).trans_lt r.size_pos
          | true =>
            obtain ⟨-, r', hr', hlt⟩ := hpin hold
            rw [hq] at hr'
            cases hr'
            exact hlt
      · intro b hb
        cases hb
        dsimp only
        cases hq : s.queue.records.isEmpty with
        | true => exact ⟨hf, rfl, nofun⟩
        | false => exact ⟨hf, rfl, fun _ => Bool.or_true _⟩
    · exact hs

/-- A byte of the pinned head that has been read moves the cursor on within the record, or releases the record. -/
theorem recordByteRead_readPortLaw (hs : s.readPortLaw) (hout : s.host.byteOut = none) (hpinned : s.port.pinned = true) :
    (recordByteRead s).readPortLaw := by
  obtain ⟨-, hpin, hburst, hcsn, -⟩ := id hs
  unfold recordByteRead
  split
  · exact hs
  · next r rest hq =>
    split
    · next hlt =>
      refine ⟨fun hun => ?_, fun hp => ⟨(hpin hp).1, r, by rw [hq]; rfl, hlt⟩, hburst, hcsn, fun b hb => ?_⟩
      · rw [hpinned] at hun; cases hun
      · rw [hout] at hb; cases hb
    · refine ⟨fun _ => rfl, nofun, hburst, hcsn, fun b hb => ?_⟩
      rw [hout] at hb
      cases hb

/-- The byte being shifted out is done. -/
theorem State.readPortLaw.done (hs : s.readPortLaw) : { s with host := { s.host with byteOut := none } }.readPortLaw := by
  obtain ⟨hcursor, hpin, hburst, hcsn, -⟩ := hs
  exact ⟨hcursor, hpin, hburst, hcsn, nofun⟩

/-- The pointer moves on where no burst is open. -/
theorem advance_readPortLaw (hs : s.readPortLaw) (hopen : s.host.burstOpen = false) (hout : s.host.byteOut = none) :
    (advance s).readPortLaw := by
  obtain ⟨hcursor, hpin, -, hcsn, -⟩ := hs
  refine ⟨hcursor, hpin, fun h => ?_, hcsn, fun b hb => ?_⟩
  · exact absurd h (by rw [advance, hopen]; decide)
  · rw [advance, hout] at hb; cases hb

theorem queueDataByteComplete_readPortLaw (hs : s.readPortLaw) (h : execQueueDataByteComplete s = .next t) :
    t.readPortLaw := by
  rcases running_cases h with ⟨-, rfl⟩ | ⟨-, rfl⟩
  · exact hs
  · split
    · exact hs
    · next b hb =>
      obtain ⟨-, -, hburst, -, hbyte⟩ := id hs
      obtain ⟨-, hwhere, hrecord⟩ := hbyte b hb
      dsimp only
      split
      · next hsource =>
        rw [if_pos hsource] at hwhere
        have hopen : s.host.burstOpen = false := by
          by_contra hne
          exact hwhere (hburst (by simpa using hne)).2
        exact advance_readPortLaw hs.done hopen rfl
      · exact hs.done
      · next hsource => exact recordByteRead_readPortLaw hs.done rfl (hrecord hsource)

/-! ### Every command -/

theorem exec_readPortLaw (c : Instr) (s t : State) (hs : s.readPortLaw) (h : exec c s = .next t) : t.readPortLaw := by
  have hwritten (hw : t = s ∨ s.host.framing = .writeRun) (hf : (moved c).contains .framing = false)
      (hb : (moved c).contains .byteOut = false) (hp : (moved c).contains .port = false) : t.readPortLaw :=
    readPortLaw_of_writeRun hs hw (exec_same h hf) (exec_same h hb) (exec_same h hp)
  have hinside (hc : ¬ releases c) (hc' : ¬ empties c) (hpointer : (moved c).contains .pointer = false)
      (hf : (moved c).contains .framing = false) (hb : (moved c).contains .byteOut = false)
      (hp : (moved c).contains .port = false) : t.readPortLaw :=
    readPortLaw_of_head hs (exec_same h hpointer) (exec_same h hf) (exec_same h hb) (exec_same h hp)
      fun hpinned r hr => (exec_queueMoves h).head hc hc' hpinned hr
  cases c with
  | hardReset => exact hardReset_readPortLaw h
  | transactionEnd | softResetEffect => cases h; exact whenever_endTransaction_readPortLaw _ hs
  | transactionOpen => exact transactionOpen_readPortLaw hs h
  | commandByte b => exact commandByte_readPortLaw hs h
  | snapshotLatch c => exact snapshotLatch_readPortLaw hs h
  | queueDataByteStart => exact queueDataByteStart_readPortLaw hs h
  | queueDataByteComplete => exact queueDataByteComplete_readPortLaw hs h
  | softReset v | evict v | irqPushPull v | limitActiveHigh v | watermarkLowWrite v | watermarkHighWrite v | intFlagsWrite v
  | intEnableWrite v => exact hwritten (writeByte_writeRun h) rfl rfl rfl
  | bandPendingWrite v | registerWrite v => exact hwritten (whenever_writeRun h) rfl rfl rfl
  | start | stop | entryLoad | targetLoad | entryFetch | targetFetch | pollNow | targetHold | targetRelease | rawTransfer
  | mark | flush => exact hwritten (exec_code_writeRun (by decide) h) rfl rfl rfl
  | abort => exact hwritten (writeByte_writeRun h) rfl rfl rfl
  | unknown code =>
    refine hwritten ?_ rfl rfl rfl
    change execUnknown code s = _ at h
    unfold execUnknown at h
    split at h
    · cases h; exact .inl rfl
    · exact command_writeRun h
  | _ => exact hinside (by simp [releases]) (by simp [empties]) rfl rfl rfl rfl

/-- Settles O8. -/
theorem readPortLawIsKept : Obligations.ReadPortLawIsKept := fun _ _ hs h =>
  step_keeps (fun _ _ hs => hs) exec_readPortLaw hs h

end

end Sys2Proof.Machine
end

section
/-! PROOFS. The ways in which a command moves the tables, the engines, the lists, the collector and the Command Unit's wait:
every command is a sequence of such steps, from which the laws of the tables and of the work in hand follow. -/

namespace Sys2Proof.Machine

/-! ### The steps -/

/-- Everything the laws of the tables and of the work in hand are read from. -/
def State.sameTables (s t : State) : Prop :=
  t.entries = s.entries ∧ t.targets = s.targets ∧ t.cu.wait = s.cu.wait ∧ t.collector = s.collector
    ∧ t.segA.work = s.segA.work ∧ t.segB.work = s.segB.work

/-- The engine's bus check for START goes on: it waits, or the bus is cleared for it (R52). -/
def Engine.checks (e : Engine) : Prop := e.stage = .busCheck ∨ (e.state = .clearing ∧ e.work = none)

/-- An engine goes on with what it has in hand: its law stays, and neither a fault nor a bus check is new. -/
def Engine.goesOn (e e' : Engine) : Prop :=
  e'.work = e.work ∧ (e.law → e'.law ∧ (e'.state = .faulted → e.state = .faulted) ∧ (e'.checks → e.checks))

/-- The wait is for a load that is deferred. -/
def Wait.isLoad : Wait → Prop
  | .entryLoad _ _ => True
  | .targetLoad _ _ => True
  | .start => False
  | .stop => False
  | .raw _ _ => False

/-- Nothing waits in the lists of segment x. -/
def State.listsEmpty (s : State) (x : Segment) : Prop :=
  (s.seg x).oneShot = [] ∧ ∀ n, s.entrySegment n = x → (s.entry n).due = none

/-- The end of work in segment x, with the lines and counts as g leaves them: the work on hand is w, and an engine that is
FAULTED leaves no work in the lists (R38, R46, R65). -/
def State.endsWork (s : State) (x : Segment) (w : Work) (st : EngineState) (g : Seg → Seg) : Prop :=
  (s.seg x).keepsWork (g (s.seg x)) ∧ (s.engine x).work = some w
    ∧ (g (s.seg x)).engine.retries ≤ (s.engine x).retries + 1 ∧ (st = .idle ∨ (st = .faulted ∧ s.listsEmpty x))

/-- A step of the tables and of the work in hand. -/
inductive TableStep (s : State) : State → Prop
  | same (t : State) (h : s.sameTables t) : TableStep s t
  | hardReset (t : State) (h : State.reset.sameTables t) : TableStep s t
  | softReset : TableStep s (softReset s)
  | engine (x : Segment) (g : Seg → Seg) (h : (s.engine x).goesOn (g (s.seg x)).engine)
      (hlists : (g (s.seg x)).oneShot = (s.seg x).oneShot ∧ (g (s.seg x)).rawPending = (s.seg x).rawPending) :
      TableStep s (s.modSeg x g)
  | lists (x : Segment) : TableStep s (emptyLists x s)
  | starts (hw : s.cu.wait = none) (hc : s.collector = .stopped) : TableStep s s.starting
  | enters (hw : s.cu.wait = some .start) (hp : s.prepared = true) : TableStep s (enterRunning s)
  | stops (hw : s.cu.wait = none) (hc : s.collector = .running) : TableStep s s.stopping
  | stopped (hc : s.collector = .stopping) (hd : s.drained = true) : TableStep s (enterStopped s)
  | entryLoad (n : EntryNo) (c : Option EntryDef) (hw : s.cu.wait = none) (hc : ∀ d, c = some d → d.sound)
      (hf : (s.entry n).inFlight = false) : TableStep s (applyEntryLoad n c s)
  | entryDefer (n : EntryNo) (c : Option EntryDef) (hw : s.cu.wait = none) (hc : ∀ d, c = some d → d.sound)
      (hf : (s.entry n).inFlight = true) : TableStep s (s.withWait (some (.entryLoad n c)))
  | targetLoad (k : TargetNo) (d : TargetDef) (hw : s.cu.wait = none) (hd : d.sound)
      (hapart : ∀ u, k ≠ u → d.apart (s.target u).d)
      (hseg : s.collector = .running → d.segment = (s.target k).d.segment) (hf : s.targetInFlight k = false) :
      TableStep s (applyTargetLoad k d s)
  | targetDefer (k : TargetNo) (d : TargetDef) (hw : s.cu.wait = none) (hd : d.sound)
      (hapart : ∀ u, k ≠ u → d.apart (s.target u).d)
      (hseg : s.collector = .running → d.segment = (s.target k).d.segment) (hf : s.targetInFlight k = true) :
      TableStep s (s.withWait (some (.targetLoad k d)))
  | request (n : EntryNo) (hw : s.cu.wait = none) (haccepted : s.pollRefused n = false)
      (hroom : (s.seg (s.entrySegment n)).oneShot.length < Config.oneShotMax)
      (hnew : n ∉ (s.seg (s.entrySegment n)).oneShot) :
      TableStep s (s.modSeg (s.entrySegment n) fun g => { g with oneShot := g.oneShot ++ [n] })
  | hold (k : TargetNo) (hw : s.cu.wait = none) (he : (s.target k).d.enabled = true) : TableStep s (holdTarget k s)
  | release (k : TargetNo) (hw : s.cu.wait = none) (he : (s.target k).d.enabled = true) : TableStep s (releaseTarget k s)
  | rawPends (r : RawParams) (hw : s.cu.wait = none) :
      TableStep s ((s.withWait (some (.raw .pending r))).modSeg r.segment fun g => { g with rawPending := true })
  | abortLoad (w : Wait) (hw : s.cu.wait = some w) (hload : w.isLoad) : TableStep s (s.withWait none)
  | withdraw (x : Segment)
      (h : (s.seg x).rawPending = true ∨ ∃ r, s.cu.wait = some (.raw .pending r) ∧ r.segment = x) :
      TableStep s ((s.modSeg x fun g => { g with rawPending := false }).withWait none)
  | abortRaw (r : RawParams) (hw : s.cu.wait = some (.raw .onSegment r)) :
      TableStep s (s.withWait (some (.raw .aborted r)))
  | tick : TableStep s (s.mapTargets Target.countDown)
  | expiry (k : TargetNo) (hq : (s.target k).health = .quarantined) (hz : (s.target k).remaining = 0) :
      TableStep s (s.setTarget k { s.target k with health := .probing })
  | due (n : EntryNo) (h : s.fallsDue n = true) : TableStep s (s.setEntry n ((s.entry n).fallDue (s.sleeps n)))
  | attention (x : Segment) (hc : s.collector = .running) : TableStep s (attentionEvent x s)
  | takesPoll (x : Segment) (n : EntryNo) (c : Cause) (hfree : s.free x = true) (hchoose : s.choose x = some (.poll n c)) :
      TableStep s (takePoll x n c s)
  | takesRaw (x : Segment) (hfree : s.free x = true) (hpending : (s.seg x).rawPending = true) : TableStep s (takeRaw x s)
  | ends (x : Segment) (w : Work) (o : WorkOutcome) (data : List Byte) (st : EngineState) (g : Seg → Seg)
      (h : s.endsWork x w st g) (hdeferred : ∀ p, w = .poll p → s.deferredBehind p = false) :
      TableStep s (finishWork x w o data st (s.modSeg x g))
  | endsDeferred (x : Segment) (p : PollWork) (o : WorkOutcome) (data : List Byte) (st : EngineState) (g : Seg → Seg)
      (v : Wait) (h : s.endsWork x (.poll p) st g) (hv : s.cu.wait = some v) (hbehind : v.behind p) :
      TableStep s (completeOk (applyDeferred v (finishWork x (.poll p) o data st ((s.withWait none).modSeg x g))))
  | faults (x : Segment) (g : Seg → Seg) (hg : (s.seg x).keepsWork (g (s.seg x))) (hwork : (s.engine x).work = none)
      (hretries : (g (s.seg x)).engine.retries = (s.engine x).retries) (hlists : s.listsEmpty x) :
      TableStep s (releaseEngine x .faulted (s.modSeg x g))

/-- Steps in a row. -/
def State.tableSteps (s t : State) : Prop := Relation.ReflTransGen TableStep s t

section
variable {s t u : State} {x : Segment} {c : Instr}

theorem State.tableSteps.trans (h : s.tableSteps t) (h' : t.tableSteps u) : s.tableSteps u := Relation.ReflTransGen.trans h h'

theorem TableStep.steps (h : TableStep s t) : s.tableSteps t := Relation.ReflTransGen.single h

/-- A law that every step keeps, every command keeps. -/
theorem State.tableSteps.keeps {L : State → Prop} (hstep : ∀ {s t : State}, TableStep s t → L s → L t) (h : s.tableSteps t)
    (hs : L s) : L t := by
  induction h with
  | refl => exact hs
  | tail _ hlast ih => exact hstep hlast ih

theorem State.sameTables.refl (s : State) : s.sameTables s := ⟨rfl, rfl, rfl, rfl, rfl, rfl⟩

theorem State.sameTables.steps (h : s.sameTables t) : s.tableSteps t := (TableStep.same t h).steps

theorem advance_steps : s.tableSteps (advance s) := State.sameTables.steps ⟨rfl, rfl, rfl, rfl, rfl, rfl⟩

theorem takeCode_steps (code : Byte) : s.tableSteps (takeCode code s) :=
  State.sameTables.steps ⟨rfl, rfl, rfl, rfl, rfl, rfl⟩

/-- A command completes while the unit waits for nothing. -/
theorem complete_steps (r d : Byte) (hw : s.cu.wait = none) : s.tableSteps (complete r d s) :=
  State.sameTables.steps ⟨rfl, rfl, hw.symm, rfl, rfl, rfl⟩

/-! ### Commands of the host -/

theorem command_steps {code : Byte} {f : State → State} (hf : ∀ u : State, u.cu.wait = none → u.tableSteps (f u))
    (h : command code f s = .next t) : s.tableSteps t := by
  rcases command_cases h with rfl | ⟨htakes, rfl⟩ | ⟨-, -, rfl⟩
  · exact (State.sameTables.refl _).steps
  · exact ((takeCode_steps code).trans (hf _ htakes.2)).trans advance_steps
  · exact State.sameTables.steps ⟨rfl, rfl, rfl, rfl, rfl, rfl⟩

theorem running_steps {f : State → State} (hf : s.tableSteps (f s)) (h : running s f = .next t) : s.tableSteps t := by
  rcases running_cases h with ⟨-, rfl⟩ | ⟨-, rfl⟩
  · exact (State.sameTables.refl _).steps
  · exact hf

theorem whenever_steps {b : Bool} {f : State → State} (hf : b = true → s.tableSteps (f s)) : s.tableSteps (whenever b f s) := by
  cases b with
  | false => exact (State.sameTables.refl _).steps
  | true => exact hf rfl

theorem execStart_steps (h : execStart s = .next t) : s.tableSteps t := by
  refine command_steps (fun u hw => ?_) h
  split
  · exact complete_steps _ _ hw
  · next hc =>
    have hstarts : u.tableSteps (beginWait .start (u.mapSegs fun g => g.latch.busCheck)) :=
      (TableStep.starts hw (not_not.1 hc)).steps.trans (State.sameTables.steps ⟨rfl, rfl, rfl, rfl, rfl, rfl⟩)
    dsimp only
    split
    · next hp => exact hstarts.trans (TableStep.enters rfl hp).steps
    · exact hstarts

theorem execStop_steps (h : execStop s = .next t) : s.tableSteps t := by
  by_cases hc : s.takes ∧ s.collector = .running
  · obtain ⟨htakes, hrunning⟩ := hc
    cases (exec_stop_eq htakes hrunning).symm.trans h
    refine State.tableSteps.trans ?_ advance_steps
    have hstops := (TableStep.stops htakes.2 hrunning).steps
    split
    · next hd => exact hstops.trans (TableStep.stopped rfl hd).steps
    · exact hstops
  · rcases command_cases h with rfl | ⟨htakes, rfl⟩ | ⟨-, -, rfl⟩
    · exact (State.sameTables.refl _).steps
    · have hno : (takeCode 0x02#8 s).collector ≠ .running := fun hrunning => hc ⟨htakes, hrunning⟩
      rw [if_pos hno]
      exact ((takeCode_steps 0x02#8).trans (complete_steps _ _ htakes.2)).trans advance_steps
    · exact State.sameTables.steps ⟨rfl, rfl, rfl, rfl, rfl, rfl⟩

theorem entryCandidate_sound {img : Nat → Byte} (h : entryLoadCode img = 0) :
    ∀ d, entryCandidate img = some d → d.sound := by
  intro d hd
  unfold entryCandidate at hd
  split at hd
  · cases hd
  · next hne =>
    cases hd
    exact entryDefOf_sound hne (by rw [← entryLoadCode_of_ne hne]; exact h)

theorem execEntryLoad_steps (h : execEntryLoad s = .next t) : s.tableSteps t := by
  refine command_steps (fun u hw => ?_) h
  split
  · exact complete_steps _ _ hw
  · next n _ =>
    dsimp only
    split
    · exact complete_steps _ _ hw
    · next hcode =>
      have hsound := entryCandidate_sound (not_not.1 hcode)
      split
      · next hf =>
        exact (TableStep.entryDefer n _ hw hsound hf).steps.trans (State.sameTables.steps ⟨rfl, rfl, rfl, rfl, rfl, rfl⟩)
      · next hf =>
        exact (TableStep.entryLoad n _ hw hsound (Bool.eq_false_iff.2 hf)).steps.trans (complete_steps _ _ (by simpa using hw))

theorem targetCode_eq_zero {d : TargetDef} {clash : Bool} (h : targetCode d clash = 0) :
    d.sound ∧ (d.enabled = true → clash = false) := by
  unfold TargetDef.sound
  unfold targetCode at h ⊢
  split at h
  · next hd => exact ⟨by rw [if_pos hd], fun he => by rw [he] at hd; cases hd⟩
  · next hd =>
    split at h; · cases h
    split at h; · cases h
    split at h; · cases h
    split at h; · cases h
    split at h; · cases h
    next h1 h2 h3 h4 h5 =>
    refine ⟨?_, fun _ => Bool.eq_false_iff.2 h5⟩
    rw [if_neg hd, if_neg h1, if_neg h2, if_neg h3, if_neg h4, if_neg Bool.false_ne_true]

/-- A candidate that TARGET_LOAD accepts is apart from every other target (R16). -/
theorem State.apart_of_targetCode {k : TargetNo} {d : TargetDef} (h : targetCode d (s.addressClash k d) = 0) :
    ∀ u, k ≠ u → d.apart (s.target u).d := by
  rintro u hu ⟨he, he', hseg, haddr⟩
  have hclash := (targetCode_eq_zero h).2 he
  rw [← Bool.not_eq_true, State.addressClash_iff] at hclash
  exact hclash ⟨u, hu.symm, he', hseg.symm, haddr.symm⟩

theorem execTargetLoad_steps (h : execTargetLoad s = .next t) : s.tableSteps t := by
  refine command_steps (fun u hw => ?_) h
  split
  · exact complete_steps _ _ hw
  · next k _ =>
    dsimp only
    split
    · exact complete_steps _ _ hw
    · next hcode =>
      have hcode := not_not.1 hcode
      obtain ⟨hsound, -⟩ := targetCode_eq_zero hcode
      have hapart := State.apart_of_targetCode hcode
      split
      · exact complete_steps _ _ hw
      · next hstate =>
        have hseg (hc : u.collector = .running) : (targetDefOf u.targetImageByte).segment = (u.target k).d.segment := by
          by_contra hne
          exact hstate ⟨hc, hne⟩
        split
        · next hf =>
          exact (TableStep.targetDefer k _ hw hsound hapart hseg hf).steps.trans
            (State.sameTables.steps ⟨rfl, rfl, rfl, rfl, rfl, rfl⟩)
        · next hf =>
          exact (TableStep.targetLoad k _ hw hsound hapart hseg (Bool.eq_false_iff.2 hf)).steps.trans
            (complete_steps _ _ (by simpa using hw))

theorem execPollNow_steps (h : execPollNow s = .next t) : s.tableSteps t := by
  refine command_steps (fun u hw => ?_) h
  split
  · exact complete_steps _ _ hw
  · next n _ =>
    dsimp only
    split
    · exact complete_steps _ _ hw
    · next haccepted =>
      split
      · exact complete_steps _ _ hw
      · next hroom =>
        split
        · exact complete_steps _ _ hw
        · next hnew =>
          exact (TableStep.request n hw (Bool.eq_false_iff.2 haccepted) (not_le.1 hroom) (by simpa using hnew)).steps.trans
            (complete_steps _ _ (by simpa using hw))

theorem onEnabledTarget_steps {f : TargetNo → State → State} (hw : s.cu.wait = none)
    (hf : ∀ k, (s.target k).d.enabled = true → s.tableSteps (f k s)) (hwait : ∀ k, (f k s).cu.wait = s.cu.wait) :
    s.tableSteps (onEnabledTarget f s) := by
  unfold onEnabledTarget
  split
  · exact complete_steps _ _ hw
  · next k _ =>
    split
    · next he => exact (hf k he).trans (complete_steps _ _ ((hwait k).trans hw))
    · exact complete_steps _ _ hw

theorem execTargetHold_steps (h : execTargetHold s = .next t) : s.tableSteps t := by
  refine command_steps (fun u hw => onEnabledTarget_steps hw (fun k he => ?_) fun k => ?_) h
  · split
    · exact (State.sameTables.refl _).steps
    · exact (TableStep.hold k hw he).steps
  · split
    · rfl
    · rw [holdTarget_frame]

theorem execTargetRelease_steps (h : execTargetRelease s = .next t) : s.tableSteps t := by
  refine command_steps (fun u hw => onEnabledTarget_steps hw (fun k he => ?_) fun k => ?_) h
  · split
    · exact (State.sameTables.refl _).steps
    · exact (TableStep.release k hw he).steps
  · split
    · rfl
    · rw [releaseTarget_frame]

theorem execRawTransfer_steps (h : execRawTransfer s = .next t) : s.tableSteps t := by
  refine command_steps (fun u hw => ?_) h
  split
  · exact complete_steps _ _ hw
  · split
    · exact complete_steps _ _ hw
    · split
      · exact complete_steps _ _ hw
      · refine (TableStep.rawPends u.rawParams hw).steps.trans (State.sameTables.steps ?_)
        cases hx : u.rawParams.segment <;> exact ⟨rfl, rfl, rfl, rfl, rfl, rfl⟩

theorem execAbort_steps (h : execAbort s = .next t) : s.tableSteps t := by
  rcases writeByte_cases h with rfl | ⟨-, rfl⟩
  · exact (State.sameTables.refl _).steps
  · refine State.tableSteps.trans ?_ advance_steps
    unfold abortBody
    dsimp only
    split
    · next hw => exact (takeCode_steps _).trans (complete_steps _ _ hw)
    · exact State.sameTables.steps ⟨rfl, rfl, rfl, rfl, rfl, rfl⟩
    · exact State.sameTables.steps ⟨rfl, rfl, rfl, rfl, rfl, rfl⟩
    · next hw => exact (TableStep.abortLoad _ hw trivial).steps.trans (State.sameTables.steps ⟨rfl, rfl, rfl, rfl, rfl, rfl⟩)
    · next hw => exact (TableStep.abortLoad _ hw trivial).steps.trans (State.sameTables.steps ⟨rfl, rfl, rfl, rfl, rfl, rfl⟩)
    · next r hw =>
      refine (TableStep.withdraw r.segment (.inr ⟨r, hw, rfl⟩)).steps.trans (State.sameTables.steps ?_)
      cases r.segment <;> exact ⟨rfl, rfl, rfl, rfl, rfl, rfl⟩
    · next r hw => exact (TableStep.abortRaw r hw).steps.trans (State.sameTables.steps ⟨rfl, rfl, rfl, rfl, rfl, rfl⟩)
    · exact takeCode_steps _

/-! ### Resets and time -/

theorem endTransaction_steps : s.tableSteps (endTransaction s) := by
  have hclosed : s.tableSteps { s with
      host := { s.host with csnLow := false, framing := .noTransaction, burstOpen := false, byteOut := none }
      port := ReadPort.reset } := State.sameTables.steps ⟨rfl, rfl, rfl, rfl, rfl, rfl⟩
  unfold endTransaction
  dsimp only
  split
  · exact hclosed.trans TableStep.softReset.steps
  · exact hclosed

theorem passUnit_steps : s.tableSteps (passUnit s) := by
  have hunit : s.tableSteps { s with elapsed := s.elapsed + 1 } := State.sameTables.steps ⟨rfl, rfl, rfl, rfl, rfl, rfl⟩
  unfold passUnit
  dsimp only
  split
  · exact hunit.trans TableStep.tick.steps
  · exact hunit

/-! ### Engines that go on (R50 to R52, R61, R64) -/

section
variable {e : Engine}

theorem Engine.law.busy_of_stage (h : e.law)
    (hstage : e.stage = .freeCheck ∨ e.stage = .onWire ∨ e.stage = .stopGap ∨ e.stage = .arbWait) : e.state = .busy := by
  obtain ⟨hstate, -⟩ := h
  cases hs : e.state with
  | busy => rfl
  | idle | faulted | clearing =>
    rw [hs] at hstate
    rcases hstage with hst | hst | hst | hst <;> simp [hst] at hstate

theorem Engine.law.rest_of_busCheck (h : e.law) (hstage : e.stage = .busCheck) :
    (e.state = .idle ∨ e.state = .faulted) ∧ e.work = none := by
  obtain ⟨hstate, -⟩ := h
  cases hs : e.state <;> rw [hs] at hstate <;> simp_all

theorem Engine.law.checks_of_noWork (h : e.law) (hwork : e.work = none) (hfree : ¬ e.checks) :
    (e.state = .idle ∨ e.state = .faulted) ∧ e.stage = .none := by
  obtain ⟨hstate, -⟩ := h
  unfold Engine.checks at hfree
  cases hs : e.state <;> rw [hs] at hstate <;> simp_all

/-- An engine that is BUSY with its work, in one of the stages of that state. -/
theorem Engine.law_busy {e' : Engine} (h : e.law) (hbusy : e.state = .busy) (hwork : e'.work = e.work)
    (hstate : e'.state = .busy) (hretries : e'.retries < 3)
    (hstage : e'.stage = .freeCheck ∨ e'.stage = .onWire ∨ e'.stage = .stopGap ∨ e'.stage = .arbWait)
    (hgap : e'.stage = .stopGap → e'.hasGap = true) : e'.law := by
  obtain ⟨hold, -⟩ := h
  rw [hbusy] at hold
  refine ⟨?_, by omega, fun _ => hretries, hgap⟩
  rw [hstate, hwork]
  exact ⟨hold.1, hstage⟩

theorem Engine.not_checks_of_busy (hstate : e.state = .busy)
    (hstage : e.stage = .freeCheck ∨ e.stage = .onWire ∨ e.stage = .stopGap ∨ e.stage = .arbWait) : ¬ e.checks := by
  rintro (h | ⟨h, -⟩)
  · rw [h] at hstage; simp at hstage
  · rw [hstate] at h; cases h

/-- An engine that stays BUSY goes on. -/
theorem Engine.goesOn_of_busy {e' : Engine}
    (hstage : e.stage = .freeCheck ∨ e.stage = .onWire ∨ e.stage = .stopGap ∨ e.stage = .arbWait)
    (hwork : e'.work = e.work) (hstate : e'.state = e.state)
    (hretries : e'.retries = e.retries ∨ (e.retries < 2 ∧ e'.retries = e.retries + 1))
    (hstage' : e'.stage = .freeCheck ∨ e'.stage = .onWire ∨ e'.stage = .stopGap ∨ e'.stage = .arbWait)
    (hgap : e'.stage = .stopGap → e.stage = .stopGap ∨ e.hasGap = true) : e.goesOn e' := by
  refine ⟨hwork, fun hlaw => ?_⟩
  have hbusy := hlaw.busy_of_stage hstage
  have hbusy' := hstate.trans hbusy
  obtain ⟨hold, -, hlt, hstop⟩ := id hlaw
  rw [hbusy] at hold
  have hless := hlt hold.1
  refine ⟨Engine.law_busy hlaw hbusy hwork hbusy' (by omega) hstage' fun h => ?_, fun h => ?_, fun h => ?_⟩
  · have hsame : e'.hasGap = e.hasGap := by unfold Engine.hasGap; rw [hwork]
    rw [hsame]
    exact (hgap h).elim hstop id
  · rw [hbusy'] at h; cases h
  · exact absurd h (Engine.not_checks_of_busy hbusy' hstage')

/-- An engine of which only counts, configuration and lines' affairs change goes on. -/
theorem Engine.goesOn_of_same {e' : Engine} (hwork : e'.work = e.work) (hstate : e'.state = e.state)
    (hstage : e'.stage = e.stage) (hretries : e'.retries = e.retries) : e.goesOn e' := by
  have hgap : e'.hasGap = e.hasGap := by unfold Engine.hasGap; rw [hwork]
  refine ⟨hwork, fun hlaw => ⟨?_, fun h => hstate ▸ h, fun h => ?_⟩⟩
  · unfold Engine.law
    rw [hwork, hstate, hstage, hretries, hgap]
    exact hlaw
  · unfold Engine.checks
    rw [← hwork, ← hstate, ← hstage]
    exact h

end

/-- A free check goes on with an engine that is BUSY (R50). -/
theorem Seg.goesOn_freeCheck {e : Engine} {g : Seg}
    (hstage : e.stage = .freeCheck ∨ e.stage = .onWire ∨ e.stage = .stopGap ∨ e.stage = .arbWait)
    (hwork : g.engine.work = e.work) (hstate : g.engine.state = e.state) (hretries : g.engine.retries = e.retries) :
    e.goesOn g.freeCheck.engine := by
  have hstage' : g.freeCheck.engine.stage = if g.busIsFree = true then .onWire else .freeCheck := rfl
  refine Engine.goesOn_of_busy hstage hwork hstate (.inl hretries) ?_ fun h => ?_
  · rw [hstage']
    split
    · exact .inr (.inl rfl)
    · exact .inl rfl
  · rw [hstage'] at h
    split at h <;> cases h

/-- A bus check that finds the lines high leaves the engine ready (R52). -/
theorem Seg.goesOn_busCheck {g : Seg} (hstage : g.engine.stage = .busCheck) : g.engine.goesOn g.busCheck.engine := by
  rw [Seg.busCheck_eq]
  refine ⟨rfl, fun hlaw => ?_⟩
  obtain ⟨hrest, hwork⟩ := hlaw.rest_of_busCheck hstage
  obtain ⟨hstate, hretries, hlt, -⟩ := hlaw
  cases hlines : g.linesHigh with
  | true => exact ⟨⟨⟨hwork, .inl rfl⟩, hretries, hlt, nofun⟩, nofun, fun h => by simp [Engine.checks, Seg.withEngine] at h⟩
  | false => exact ⟨⟨by rcases hrest with h | h <;> simp [Seg.withEngine, h, hwork], hretries, hlt, nofun⟩, id,
      fun _ => .inl hstage⟩

theorem Seg.goesOn_recheck (g : Seg) : g.engine.goesOn g.recheck.engine := by
  unfold Seg.recheck
  split
  · next h => exact Seg.goesOn_freeCheck (.inl h) rfl rfl rfl
  · next h => exact Seg.goesOn_busCheck h
  all_goals exact Engine.goesOn_of_same rfl rfl rfl rfl

theorem Seg.goesOn_seesStop (now : Nat) (g : Seg) : g.engine.goesOn (g.seesStop now).engine := by
  unfold Seg.seesStop
  dsimp only
  split
  · next h => exact Seg.goesOn_freeCheck (.inl h) rfl rfl rfl
  · next h => exact Seg.goesOn_freeCheck (.inr (.inr (.inr h))) rfl rfl rfl
  · next h =>
    split
    · next hgap => exact Engine.goesOn_of_busy (.inr (.inl h)) rfl rfl (.inl rfl) (.inr (.inr (.inl rfl))) fun _ => .inr hgap
    · exact Engine.goesOn_of_same rfl rfl rfl rfl
  all_goals exact Engine.goesOn_of_same rfl rfl rfl rfl

theorem Seg.goesOn_waitIsOver {now : Nat} {g : Seg} (h : g.busyWaitOver now = true) :
    g.engine.goesOn (g.waitIsOver now).engine := by
  obtain ⟨hstage, -⟩ := (Seg.busyWaitOver_iff now g).1 h
  have hbusy : g.engine.stage = .freeCheck ∨ g.engine.stage = .onWire ∨ g.engine.stage = .stopGap
      ∨ g.engine.stage = .arbWait := hstage.elim (fun h => .inr (.inr (.inr h))) fun h => .inl h.1
  unfold Seg.waitIsOver
  dsimp only
  split <;> exact Seg.goesOn_freeCheck hbusy rfl rfl rfl

/-- An engine that goes to CLEARING from a free check or a bus check (R50, R52). -/
theorem Engine.goesOn_clearing {e : Engine} (hstage : e.stage = .freeCheck ∨ e.stage = .busCheck) (since : Nat) :
    e.goesOn { e with state := .clearing, stage := .none, waitSince := since } := by
  refine ⟨rfl, fun hlaw => ?_⟩
  obtain ⟨hstate, hretries, hlt, -⟩ := id hlaw
  refine ⟨⟨rfl, hretries, hlt, nofun⟩, nofun, fun h => ?_⟩
  rcases h with h | ⟨-, hwork⟩
  · cases h
  · rcases hstage with hstage | hstage
    · rw [hlaw.busy_of_stage (.inl hstage)] at hstate
      exact absurd hwork hstate.1
    · exact .inl hstage

/-- A bus clear that succeeds (R64). -/
theorem Engine.goesOn_cleared (e : Engine) (busy : Bool) :
    e.goesOn (if e.work.isSome = true then { e with busBusy := busy, state := .busy, stage := .onWire }
      else { e with busBusy := busy, state := .idle, stage := .none }) := by
  split
  · next hwork =>
    refine ⟨rfl, fun hlaw => ?_⟩
    obtain ⟨-, hretries, hlt, -⟩ := hlaw
    have hne : e.work ≠ none := Option.isSome_iff_ne_none.1 hwork
    exact ⟨⟨⟨hne, .inr (.inl rfl)⟩, hretries, hlt, nofun⟩, nofun, fun h => by simp [Engine.checks] at h⟩
  · next hwork =>
    refine ⟨rfl, fun hlaw => ?_⟩
    obtain ⟨-, hretries, hlt, -⟩ := hlaw
    have hnone : e.work = none := by simpa using hwork
    exact ⟨⟨⟨hnone, .inl rfl⟩, hretries, hlt, nofun⟩, nofun, fun h => by simp [Engine.checks] at h⟩

/-! ### Every command -/

theorem modSeg_work_steps (g : Seg → Seg) (hg : (g (s.seg x)).work = (s.seg x).work) : s.tableSteps (s.modSeg x g) := by
  refine State.sameTables.steps ?_
  cases x
  · exact ⟨rfl, rfl, rfl, rfl, hg, rfl⟩
  · exact ⟨rfl, rfl, rfl, rfl, rfl, hg⟩

theorem execBusClearSuccess_steps {r : ClearRun} (h : execBusClearSuccess r s = .next t) : s.tableSteps t := by
  refine running_steps (whenever_steps fun _ => ?_) h
  rw [ownStop, State.modSeg_modSeg]
  refine (TableStep.engine r.segment _ ?_ ⟨rfl, rfl⟩).steps
  exact Engine.goesOn_cleared _ false

/-- Work that goes on, on the wire or behind a loss of arbitration. -/
theorem Engine.goesOn_of_stage {e e' : Engine} (hwork : e'.work = e.work) (hstate : e'.state = e.state)
    (hstage : (e'.stage = e.stage ∧ e'.retries = e.retries) ∨ ((e.stage = .onWire ∨ e.stage = .stopGap) ∧ e.retries < 2
      ∧ e'.stage = .arbWait ∧ e'.retries = e.retries + 1)) : e.goesOn e' := by
  rcases hstage with ⟨hstage, hretries⟩ | ⟨hstage, hlt, harb, hretries⟩
  · exact Engine.goesOn_of_same hwork hstate hstage hretries
  · exact Engine.goesOn_of_busy (.inr (hstage.imp_right .inl)) hwork hstate (.inr ⟨hlt, hretries⟩)
      (.inr (.inr (.inr harb))) fun h => by rw [harb] at h; cases h

/-- Work ends: without a load deferred behind it, or with one. -/
theorem finishWork_steps {w : Work} {st : EngineState} {g : Seg → Seg} (o : WorkOutcome) (data : List Byte)
    (h : s.endsWork x w st g) : s.tableSteps (finishWork x w o data st (s.modSeg x g)) := by
  by_cases hd : ∀ p, w = .poll p → s.deferredBehind p = false
  · exact (TableStep.ends x w o data st g h hd).steps
  · push Not at hd
    obtain ⟨p, rfl, hp⟩ := hd
    obtain ⟨v, hv, hbehind⟩ := (s.deferredBehind_iff p).1 (by simpa using hp)
    have hload : finishWork x (.poll p) o data st (s.modSeg x g)
        = completeOk (applyDeferred v (finishWork x (.poll p) o data st ((s.withWait none).modSeg x g))) := by
      have hwith : s.modSeg x g = (s.modSeg x g).withWait (some v) := by
        conv_lhs => rw [← State.withWait_self s, hv, State.modSeg_withWait]
      rw [hwith, finishWork_deferred _ _ _ _ _ _ hbehind, State.modSeg_withWait]
    rw [hload]
    exact (TableStep.endsDeferred x p o data st g v h hv hbehind).steps

theorem listsEmpty_emptyLists : (emptyLists x s).listsEmpty x := by
  refine ⟨by rw [emptyLists_seg, if_pos rfl], fun n hn => ?_⟩
  rw [emptyLists_entrySegment] at hn
  rw [emptyLists_entry, if_pos hn]

/-- The lines are noted before or after the lists are emptied. -/
theorem State.emptied_eq (g : Seg → Seg) :
    s.emptied x g = (emptyLists x s).modSeg x fun _ => { g (s.seg x) with oneShot := [] } := by
  refine State.ext_tables (fun n => ?_) (fun k => by simp [State.emptied]) (fun y => ?_) ?_
  · rw [State.emptied_entry, State.entry_modSeg, emptyLists_entry]
    split <;> rfl
  · rw [State.emptied_seg, State.seg_modSeg, emptyLists_seg]
    split <;> rfl
  · apply State.ext <;> simp [State.emptied]

theorem endDrain_steps : s.tableSteps (endDrain s) := by
  rcases endDrain_cases s with ⟨hc, hd, h⟩ | ⟨-, h⟩ <;> rw [h]
  · exact (TableStep.stopped hc hd).steps
  · exact (State.sameTables.refl _).steps

theorem withdrawRaw_steps : s.tableSteps (withdrawRaw x s) := by
  cases h : (s.seg x).rawPending with
  | false => rw [withdrawRaw_of_not_pending h]; exact (State.sameTables.refl _).steps
  | true =>
    rw [withdrawRaw_of_pending h]
    exact (TableStep.withdraw x (.inl h)).steps.trans (State.sameTables.steps ⟨rfl, rfl, rfl, rfl, rfl, rfl⟩)

theorem faultSegment_steps {g : Seg → Seg} (hg : (s.seg x).keepsWork (g (s.seg x)))
    (hretries : (g (s.seg x)).engine.retries = (s.engine x).retries) : s.tableSteps (faultSegment x g s) := by
  have hseg : (emptyLists x s).seg x = { s.seg x with oneShot := [] } := by rw [emptyLists_seg, if_pos rfl]
  have hengine : (emptyLists x s).engine x = s.engine x := by rw [State.engine, hseg]; rfl
  have hkeeps : ((emptyLists x s).seg x).keepsWork { g (s.seg x) with oneShot := [] } := by
    rw [hseg]
    exact ⟨rfl, hg.2⟩
  have hstuck : (emptyLists x s).tableSteps (endStuckWork x (s.engine x).work (s.emptied x g)) := by
    rw [State.emptied_eq]
    cases hwork : (s.engine x).work with
    | none => exact (TableStep.faults x _ hkeeps (hengine ▸ hwork) (hengine ▸ hretries) listsEmpty_emptyLists).steps
    | some w =>
      exact finishWork_steps .busStuck [] ⟨hkeeps, hengine ▸ hwork, by rw [hengine]; exact hretries.le.trans (Nat.le_succ _),
        .inr ⟨rfl, listsEmpty_emptyLists⟩⟩
  rw [faultSegment_eq]
  exact (((TableStep.lists x).steps.trans hstuck).trans withdrawRaw_steps).trans
    (State.sameTables.steps ⟨rfl, rfl, rfl, rfl, rfl, rfl⟩)

theorem WorkEvent.steps (h : WorkEvent s t) : s.tableSteps t := by
  cases h with
  | nothing => exact (State.sameTables.refl _).steps
  | goesOn x g hg hstage =>
    obtain ⟨hone, hraw, hwork, hstate⟩ := hg
    exact (TableStep.engine x g (Engine.goesOn_of_stage hwork hstate hstage) ⟨hone, hraw⟩).steps
  | ends x w o data g hg hwork hstage hretries => exact finishWork_steps o data ⟨hg, hwork, hretries, .inl rfl⟩
  | faults x g hg hretries => exact (faultSegment_steps hg hretries).trans endDrain_steps

theorem execSelectionOccasion_steps (h : execSelectionOccasion x s = .next t) : s.tableSteps t := by
  refine running_steps (whenever_steps fun hb => ?_) h
  have hfree : s.free x = true := (Bool.and_eq_true_iff.1 hb).1
  split
  · exact (State.sameTables.refl _).steps
  · next hraw =>
    have hpending : (s.seg x).rawPending = true := by
      unfold State.choose at hraw
      split at hraw
      · assumption
      · split at hraw
        · cases hraw
        · split at hraw
          · cases hraw
          · split at hraw
            · cases hraw
            · simp at hraw
    exact (TableStep.takesRaw x hfree hpending).steps
  · next n cause hpoll => exact (TableStep.takesPoll x n cause hfree hpoll).steps

theorem execAttnFallingEdge_steps (h : execAttnFallingEdge x s = .next t) : s.tableSteps t := by
  cases h
  have hspent : s.tableSteps (s.modSeg x fun g => { g with attnHigh := false, attnArmed := false }) :=
    modSeg_work_steps _ rfl
  split
  · next hedge =>
    refine hspent.trans (TableStep.attention x ?_).steps
    simp only [Bool.and_eq_true, beq_iff_eq] at hedge
    obtain ⟨⟨-, hc⟩, -⟩ := hedge
    simpa using hc
  · exact hspent

/-- Every command is a sequence of steps. -/
theorem exec_tableSteps (h : exec c s = .next t) : s.tableSteps t := by
  by_cases hc : endsWork c = true
  · exact (exec_workEvent hc h).steps
  have hsame (hentries : (moved c).contains .entries = false) (htargets : (moved c).contains .targets = false)
      (hwait : (moved c).contains .wait = false) (hcollector : (moved c).contains .collector = false)
      (hworks : (moved c).contains .works = false) : s.tableSteps t :=
    State.sameTables.steps ⟨exec_same (p := .entries) h hentries, exec_same (p := .targets) h htargets,
      exec_same (p := .wait) h hwait, exec_same (p := .collector) h hcollector, exec_same (p := .works) h hworks⟩
  cases c with
  | hardReset =>
    cases h
    refine (TableStep.hardReset _ ?_).steps
    exact ⟨rfl, rfl, rfl, rfl, rfl, rfl⟩
  | transactionEnd | softResetEffect => cases h; exact whenever_steps fun _ => endTransaction_steps
  | start => exact execStart_steps h
  | stop => exact execStop_steps h
  | entryLoad => exact execEntryLoad_steps h
  | targetLoad => exact execTargetLoad_steps h
  | pollNow => exact execPollNow_steps h
  | targetHold => exact execTargetHold_steps h
  | targetRelease => exact execTargetRelease_steps h
  | rawTransfer => exact execRawTransfer_steps h
  | abort => exact execAbort_steps h
  | collectorEnterRunning =>
    refine running_steps (whenever_steps fun hb => ?_) h
    obtain ⟨hw, hp⟩ := Bool.and_eq_true_iff.1 hb
    exact (TableStep.enters (beq_iff_eq.1 hw) hp).steps
  | collectorEnterStopped =>
    refine running_steps (whenever_steps fun hb => ?_) h
    obtain ⟨hstopping, hd⟩ := Bool.and_eq_true_iff.1 hb
    exact (TableStep.stopped (beq_iff_eq.1 hstopping) hd).steps
  | tick => exact running_steps (whenever_steps fun _ => passUnit_steps) h
  | stampCounterAdvance => exact running_steps passUnit_steps h
  | backoffExpiry k =>
    refine running_steps (whenever_steps fun hb => ?_) h
    obtain ⟨hq, hz⟩ := Bool.and_eq_true_iff.1 hb
    exact (TableStep.expiry k (beq_iff_eq.1 hq) (beq_iff_eq.1 hz)).steps
  | dueTimeEvent n => exact running_steps (whenever_steps fun hb => (TableStep.due n hb).steps) h
  | attnFallingEdge x => exact execAttnFallingEdge_steps h
  | selectionOccasion x => exact execSelectionOccasion_steps h
  | busFree x l =>
    cases h
    exact (TableStep.engine x _ (by cases l <;> exact Seg.goesOn_recheck (Seg.rise _ (s.seg x)))
      (by rw [Seg.rise_recheck_eq l (s.seg x) _ rfl]; exact ⟨rfl, rfl⟩)).steps
  | busStopSeen x =>
    refine running_steps (whenever_steps fun _ => ?_) h
    exact (TableStep.engine x (Seg.seesStop s.elapsed) (Seg.goesOn_seesStop _ _)
      (by rw [Seg.seesStop_eq _ _ _ rfl]; exact ⟨rfl, rfl⟩)).steps
  | busBusyTimeout x =>
    refine running_steps (whenever_steps fun hb => ?_) h
    exact (TableStep.engine x (Seg.waitIsOver s.elapsed) (Seg.goesOn_waitIsOver hb)
      (by rw [Seg.waitIsOver_eq]; exact ⟨rfl, rfl⟩)).steps
  | busClear x =>
    refine running_steps (whenever_steps fun hb => ?_) h
    have hstage : (s.engine x).stage = .freeCheck ∨ (s.engine x).stage = .busCheck := by
      simpa using (Bool.and_eq_true_iff.1 hb).1
    exact (TableStep.engine x _ (Engine.goesOn_clearing hstage s.elapsed) ⟨rfl, rfl⟩).steps
  | busClearSuccess r => exact execBusClearSuccess_steps h
  | completion | deferredLoadEnd | rawTransferCompletion | stretchTimeout | arbitrationLoss | foreignStartSeen
  | busClearFail => exact absurd rfl hc
  | _ => exact hsame rfl rfl rfl rfl rfl

/-- What every step of the tables keeps, every step of the machine keeps. -/
theorem step_keeps_tables {L : State → Prop} (hpending : ∀ s rest, L s → L { s with pending := rest })
    (hstep : ∀ {s t : State}, TableStep s t → L s → L t) (hs : L s) (h : step s = .next t) : L t :=
  step_keeps hpending (fun _ _ _ hs h => (exec_tableSteps h).keeps hstep hs) hs h

end

end Sys2Proof.Machine
end

section
/-! PROOFS. The law of the Target Table (R13, R14, R16). -/

namespace Sys2Proof.Machine

section
variable {s t u : State} {x : Segment} {k : TargetNo} {d : TargetDef} {w : Wait}

/-! ### A load that is waited for was deferred at a step of its own -/

theorem finishRaw_wait (r : RawParams) (o : WorkOutcome) (data : List Byte) :
    (finishRaw r o data s).cu.wait = none ∨ (finishRaw r o data s).cu.wait = s.cu.wait := by
  unfold finishRaw
  split
  · exact .inl rfl
  · exact .inl rfl
  · exact .inr rfl

/-- Work that ends with no load deferred behind it ends no load. -/
theorem finishWork_wait {work : Work} (o : WorkOutcome) (data : List Byte) (st : EngineState)
    (hd : ∀ p, work = .poll p → s.deferredBehind p = false) :
    (finishWork x work o data st s).cu.wait = none ∨ (finishWork x work o data st s).cu.wait = s.cu.wait := by
  cases work with
  | poll p => rw [finishWork_poll_frame st (hd p rfl)]; exact .inr rfl
  | raw r =>
    have hreleased : (releaseEngine x st s).cu = s.cu := by simp
    have hraw := finishRaw_wait (s := releaseEngine x st s) r o data
    rw [hreleased] at hraw
    exact hraw

theorem takeRaw_wait : (∃ r, (takeRaw x s).cu.wait = some (.raw .onSegment r)) ∨ (takeRaw x s).cu.wait = s.cu.wait := by
  unfold takeRaw
  split
  · next r _ => exact .inl ⟨r, by simp⟩
  · exact .inr rfl

/-- A step that makes the unit wait for a load defers it: an entry load with a sound candidate, or a target load with one that
is sound and apart from the other targets. -/
theorem TableStep.load_waits (h : TableStep s t) (hload : w.isLoad) (hw : t.cu.wait = some w) :
    s.cu.wait = some w ∨ (∃ n c, w = .entryLoad n c ∧ ∀ d, c = some d → d.sound)
      ∨ ∃ k d, w = .targetLoad k d ∧ d.sound ∧ ∀ v, k ≠ v → d.apart (s.target v).d := by
  have hno {v : Wait} (hv : ¬ v.isLoad) (hwait : t.cu.wait = some v) : False := by
    rw [hwait] at hw
    cases hw
    exact hv hload
  have hnone (hwait : t.cu.wait = none) : False := by rw [hwait] at hw; cases hw
  cases h with
  | same _ h => exact .inl (h.2.2.1 ▸ hw)
  | hardReset _ h => exact (hnone h.2.2.1).elim
  | softReset => exact (hnone rfl).elim
  | engine | request | attention | due | tick | expiry | faults | takesPoll | hold | release | lists | targetLoad | entryLoad =>
    exact .inl (by simpa [holdTarget, releaseTarget] using hw)
  | starts => exact (hno (v := .start) id rfl).elim
  | enters => exact (hnone (by rw [enterRunning_cu]; rfl)).elim
  | stops => exact (hno (v := .stop) id rfl).elim
  | stopped =>
    unfold enterStopped at hw
    dsimp only at hw
    split at hw
    · cases hw
    · exact .inl hw
  | entryDefer n c _ hc => cases hw; exact .inr (.inl ⟨n, c, rfl, hc⟩)
  | targetDefer k d _ hd hapart => cases hw; exact .inr (.inr ⟨k, d, rfl, hd, hapart⟩)
  | rawPends r => exact (hno (v := .raw .pending r) id (by simp [State.withWait])).elim
  | abortLoad | withdraw => exact (hnone rfl).elim
  | abortRaw r => exact (hno (v := .raw .aborted r) id rfl).elim
  | takesRaw x =>
    rcases takeRaw_wait (s := s) (x := x) with ⟨r, h⟩ | h
    · exact (hno id h).elim
    · exact .inl (h ▸ hw)
  | ends x work o data st g _ hd =>
    have hdeferred : ∀ p, work = .poll p → (s.modSeg x g).deferredBehind p = false := fun p hp =>
      (State.deferredBehind_congr (by simp) p).trans (hd p hp)
    rcases finishWork_wait (x := x) o data st hdeferred with h | h
    · exact (hnone h).elim
    · exact .inl (by rw [h] at hw; simpa using hw)
  | endsDeferred => exact (hnone rfl).elim

/-! ### The definitions of the targets -/

/-- What the law of the Target Table says of the targets alone. -/
def State.targetsLaw (s : State) : Prop :=
  (∀ t, (s.target t).d.sound) ∧ ∀ t u, t ≠ u → (s.target t).d.apart (s.target u).d

theorem State.targetsLaw.of_d (h : s.targetsLaw) (hd : ∀ k, (t.target k).d = (s.target k).d) : t.targetsLaw := by
  unfold State.targetsLaw
  simp only [hd]
  exact h

theorem TargetDef.apart.symm {d d' : TargetDef} (h : d.apart d') : d'.apart d :=
  fun ⟨he, he', hseg, haddr⟩ => h ⟨he', he, hseg.symm, haddr.symm⟩

/-- A target that is loaded with a definition that is sound and apart from the others. -/
theorem State.targetsLaw.load (h : s.targetsLaw) (hd : d.sound) (hapart : ∀ u, k ≠ u → d.apart (s.target u).d)
    (ht : ∀ j, (t.target j).d = if j = k then d else (s.target j).d) : t.targetsLaw := by
  obtain ⟨hsound, hclear⟩ := h
  constructor
  · intro j
    rw [ht]
    split
    · exact hd
    · exact hsound j
  · intro i j hij
    rw [ht, ht]
    split
    · next hi => rw [if_neg fun hj => hij (hi.trans hj.symm)]; exact hapart j fun hj => hij (hi.trans hj)
    · split
      · next hi hj => exact (hapart i (Ne.symm hi)).symm
      · exact hclear i j hij

theorem Target.countDown_d (g : Target) : g.countDown.d = g.d := by unfold Target.countDown; split <;> rfl

theorem finishWork_raw_target (r : RawParams) (o : WorkOutcome) (data : List Byte) (st : EngineState) :
    (finishWork x (.raw r) o data st s).target k = s.target k := by
  have hraw : (finishRaw r o data (releaseEngine x st s)).target k = (releaseEngine x st s).target k :=
    State.target_congr (by simp) k
  exact hraw.trans (by simp)

/-- Work that ends with no load deferred behind it leaves the definitions alone. -/
theorem finishWork_d {work : Work} (o : WorkOutcome) (data : List Byte) (st : EngineState)
    (hd : ∀ p, work = .poll p → s.deferredBehind p = false) (k : TargetNo) :
    ((finishWork x work o data st s).target k).d = (s.target k).d := by
  cases work with
  | raw r => rw [finishWork_raw_target]
  | poll p =>
    rw [finishWork_poll_target st (hd p rfl)]
    split
    · next hk => rw [hk, State.judgement_d]
    · rfl

/-- What a step does to the definitions of the targets: nothing, a hard reset's zeros, or one load of a definition that is
sound and apart from the others, behind which the unit waits for nothing. -/
theorem TableStep.target_d (h : TableStep s t) (hs : s.targetTableLaw) : (∀ k, (t.target k).d = (s.target k).d)
    ∨ State.reset.sameTables t
    ∨ ∃ k d, d.sound ∧ (∀ u, k ≠ u → d.apart (s.target u).d) ∧ t.cu.wait = none
        ∧ ∀ j, (t.target j).d = if j = k then d else (s.target j).d := by
  cases h with
  | same _ h => exact .inl fun k => by rw [State.target_congr h.2.1]
  | hardReset _ h => exact .inr (.inl h)
  | softReset => exact .inl fun k => by rw [softReset_target]; rfl
  | starts =>
    refine .inl fun k => congrArg Target.d (State.target_congr ?_ k)
    simp [State.starting]
  | enters => exact .inl fun k => by rw [enterRunning_target, Target.started_d]
  | tick => exact .inl fun k => by rw [State.target_mapTargets, Target.countDown_d]
  | expiry j =>
    refine .inl fun k => ?_
    rw [State.target_setTarget]
    split
    · next h => rw [h]
    · rfl
  | hold j =>
    refine .inl fun k => ?_
    rw [holdTarget_target]
    split
    · next h => rw [h]; rfl
    · rfl
  | release j =>
    refine .inl fun k => ?_
    rw [releaseTarget_target]
    split
    · next h => rw [h]; rfl
    · rfl
  | targetLoad j d hw hd hapart =>
    refine .inr (.inr ⟨j, d, hd, hapart, by simpa using hw, fun i => ?_⟩)
    rw [applyTargetLoad_target]
    split <;> rfl
  | takesRaw x => exact .inl fun k => by rw [State.target_congr (takeRaw_targets x s)]
  | ends x work o data st g _ hd =>
    refine .inl fun k => ?_
    rw [finishWork_d o data st fun p hp => (State.deferredBehind_congr (by simp) p).trans (hd p hp), State.target_modSeg]
  | endsDeferred x p o data st g v _ hv =>
    set ended := finishWork x (.poll p) o data st ((s.withWait none).modSeg x g) with hended
    have hkept (k : TargetNo) : (ended.target k).d = (s.target k).d := by
      rw [hended, finishWork_d o data st fun p _ => State.deferredBehind_congr (t := (s.withWait none).modSeg x g)
        (s := s.withWait none) (by simp) p, State.target_modSeg, State.withWait_target]
    cases v with
    | targetLoad j d =>
      obtain ⟨hd, hapart⟩ := hs.2.2 _ hv j d rfl
      refine .inr (.inr ⟨j, d, hd, hapart, rfl, fun i => ?_⟩)
      rw [applyDeferred, completeOk_target, applyTargetLoad_target]
      split
      · rfl
      · exact hkept i
    | entryLoad n c => exact .inl fun k => by rw [applyDeferred, completeOk_target, applyEntryLoad_target, hkept]
    | start | stop | raw => exact .inl fun k => by rw [applyDeferred, completeOk_target, hkept]
  | _ => exact .inl fun k => by simp

/-- Every step keeps the law of the Target Table. -/
theorem TableStep.targetTableLaw (h : TableStep s t) (hs : s.targetTableLaw) : t.targetTableLaw := by
  obtain ⟨hsound, hclear, hcandidate⟩ := id hs
  have htargets : s.targetsLaw := ⟨hsound, hclear⟩
  rcases h.target_d hs with hd | hreset | ⟨k, d, hd, hapart, hnone, ht⟩
  · obtain ⟨hsound', hclear'⟩ := htargets.of_d hd
    refine ⟨hsound', hclear', fun w hw k e hwk => ?_⟩
    subst hwk
    simp only [hd]
    rcases h.load_waits (w := .targetLoad k e) trivial hw with hold | ⟨n, c, hno, -⟩ | ⟨j, e', heq, hnew⟩
    · exact hcandidate _ hold k e rfl
    · cases hno
    · cases heq; exact hnew
  · obtain ⟨hsound', hclear', -⟩ := State.reset_targetTableLaw
    obtain ⟨hsound'', hclear''⟩ := State.targetsLaw.of_d (s := State.reset) ⟨hsound', hclear'⟩ fun k => by
      rw [State.target_congr hreset.2.1]
    refine ⟨hsound'', hclear'', fun w hw => ?_⟩
    rw [hreset.2.2.1] at hw
    cases hw
  · obtain ⟨hsound', hclear'⟩ := htargets.load hd hapart ht
    refine ⟨hsound', hclear', fun w hw => ?_⟩
    rw [hnone] at hw
    cases hw

/-- Settles O9. -/
theorem targetTableLawIsKept : Obligations.TargetTableLawIsKept := fun _ _ hs h =>
  step_keeps_tables (fun _ _ hs => hs) TableStep.targetTableLaw hs h

end

end Sys2Proof.Machine
end

section
/-! PROOFS. The law of the work in hand, part by part, and steps that move the engines or the lists alone (R25, R34 to R46). -/

namespace Sys2Proof.Machine

/-! ### The law part by part -/

/-- `State.workLaw`, each part by its name. -/
structure State.Works (s : State) : Prop where
  engine : ∀ x, (s.engine x).law
  checks : ∀ x, (s.engine x).checks → s.cu.wait = some .start
  poll : ∀ x p, (s.engine x).poll = some p → s.pollBelongs x p
  raw : ∀ x r, (s.engine x).raw = some r → r.segment = x ∧ s.cu.wait.bind Wait.rawOnSegment = some r
  pending : ∀ x, (s.seg x).rawPending = true → ∃ r, s.cu.wait.bind Wait.rawPending = some r ∧ r.segment = x
  room : ∀ x, (s.seg x).oneShot.length ≤ Config.oneShotMax
  nodup : ∀ x, (s.seg x).oneShot.Nodup
  member : ∀ x, ∀ n ∈ (s.seg x).oneShot, s.entrySegment n = x
  inFlight : ∀ n, (s.entry n).inFlight = true → ∃ p, (s.engine (s.entrySegment n)).poll = some p ∧ p.entry = n
  listed : ∀ n, ((s.entry n).due.isSome = true ∨ s.inOneShot n = true) →
    s.collector = .running ∧ (s.entry n).defined = true ∧ s.sleeps n = false
  stopping : s.collector = .stopping ↔ s.cu.wait = some .stop
  starting : s.cu.wait = some .start → s.collector = .stopped
  rawPends : ∀ r, s.cu.wait.bind Wait.rawPending = some r → (s.seg r.segment).rawPending = true
  rawHeld : ∀ r, s.cu.wait.bind Wait.rawOnSegment = some r → (s.engine r.segment).raw = some r
  entryLoad : ∀ n c, s.cu.wait = some (.entryLoad n c) → s.collector = .running ∧ (s.entry n).inFlight = true
  targetLoad : ∀ k d, s.cu.wait = some (.targetLoad k d) →
    s.collector = .running ∧ s.targetInFlight k = true ∧ d.segment = (s.target k).d.segment

section
variable {s t : State} {x : Segment} {n : EntryNo} {k : TargetNo}

theorem State.segmentLaw_of_works (h : s.Works) (x : Segment) : s.segmentLaw x :=
  ⟨h.engine x, h.checks x, h.poll x, h.raw x, h.pending x, h.room x, h.nodup x, h.member x⟩

theorem State.workLaw_iff : s.workLaw ↔ s.Works := by
  constructor
  · rintro ⟨ha, hb, hwaiting, hstop, hstart, hpends, hheld, hload⟩
    have hseg (x : Segment) : s.segmentLaw x := by cases x <;> assumption
    unfold State.segmentLaw at hseg
    exact {
      engine := fun x => (hseg x).1
      checks := fun x => (hseg x).2.1
      poll := fun x => (hseg x).2.2.1
      raw := fun x => (hseg x).2.2.2.1
      pending := fun x => (hseg x).2.2.2.2.1
      room := fun x => (hseg x).2.2.2.2.2.1
      nodup := fun x => (hseg x).2.2.2.2.2.2.1
      member := fun x => (hseg x).2.2.2.2.2.2.2
      inFlight := fun n => (hwaiting n).1
      listed := fun n => (hwaiting n).2
      stopping := hstop
      starting := hstart
      rawPends := hpends
      rawHeld := hheld
      entryLoad := fun n c hw => (hload _ hw).1 n c rfl
      targetLoad := fun k d hw => (hload _ hw).2 k d rfl }
  · intro h
    exact ⟨State.segmentLaw_of_works h .a, State.segmentLaw_of_works h .b, fun n => ⟨h.inFlight n, h.listed n⟩, h.stopping,
      h.starting, h.rawPends, h.rawHeld, fun w hw => ⟨fun n c hwn => h.entryLoad n c (hwn ▸ hw),
        fun k d hwk => h.targetLoad k d (hwk ▸ hw)⟩⟩

theorem Engine.poll_congr {e e' : Engine} (h : e'.work = e.work) : e'.poll = e.poll := by unfold Engine.poll; rw [h]

theorem Engine.raw_congr {e e' : Engine} (h : e'.work = e.work) : e'.raw = e.raw := by unfold Engine.raw; rw [h]

theorem Engine.goesOn_refl (e : Engine) : e.goesOn e := ⟨rfl, fun h => ⟨h, id, id⟩⟩

theorem State.inOneShot_iff : s.inOneShot n = true ↔ n ∈ (s.seg (s.entrySegment n)).oneShot := by
  simp [State.inOneShot]

/-! ### What the law says of a unit that waits for nothing, and of a stopped collector -/

namespace State.Works

theorem not_stopping (h : s.Works) (hw : s.cu.wait = none) : s.collector ≠ .stopping := fun hc => by
  rw [h.stopping, hw] at hc
  cases hc

theorem no_checks (h : s.Works) (hw : s.cu.wait ≠ some .start) (x : Segment) : ¬ (s.engine x).checks := fun hc => hw (h.checks x hc)

theorem no_raw (h : s.Works) (hw : s.cu.wait.bind Wait.rawOnSegment = none) (x : Segment) : (s.engine x).raw = none := by
  cases hr : (s.engine x).raw with
  | none => rfl
  | some r =>
    have := (h.raw x r hr).2
    rw [hw] at this
    cases this

theorem no_pending (h : s.Works) (hw : s.cu.wait.bind Wait.rawPending = none) (x : Segment) : (s.seg x).rawPending = false := by
  rw [← Bool.not_eq_true]
  intro hp
  obtain ⟨r, hr, -⟩ := h.pending x hp
  rw [hw] at hr
  cases hr

theorem no_poll (h : s.Works) (hc : s.collector = .stopped) (x : Segment) : (s.engine x).poll = none := by
  cases hp : (s.engine x).poll with
  | none => rfl
  | some p => exact absurd hc (h.poll x p hp).1

theorem no_work (hpoll : (s.engine x).poll = none) (hraw : (s.engine x).raw = none) : (s.engine x).work = none := by
  cases hw : (s.engine x).work with
  | none => rfl
  | some w =>
    cases w with
    | poll p => rw [(Engine.poll_eq_some_iff _ p).2 hw] at hpoll; cases hpoll
    | raw r => rw [(Engine.raw_eq_some_iff _ r).2 hw] at hraw; cases hraw

theorem no_inFlight (h : s.Works) (hpoll : (s.engine (s.entrySegment n)).poll = none) : (s.entry n).inFlight = false := by
  rw [← Bool.not_eq_true]
  intro hf
  obtain ⟨p, hp, -⟩ := h.inFlight n hf
  rw [hpoll] at hp
  cases hp

theorem no_due (h : s.Works) (hc : s.collector ≠ .running) (n : EntryNo) : (s.entry n).due = none := by
  cases hd : (s.entry n).due with
  | none => rfl
  | some c => exact absurd (h.listed n (.inl (by rw [hd]; rfl))).1 hc

theorem listed_of_mem (h : s.Works) (hn : n ∈ (s.seg x).oneShot) :
    s.collector = .running ∧ (s.entry n).defined = true ∧ s.sleeps n = false := by
  refine h.listed n (.inr (State.inOneShot_iff.2 ?_))
  rw [h.member x n hn]
  exact hn

theorem no_request (h : s.Works) (hc : s.collector ≠ .running) (x : Segment) : (s.seg x).oneShot = [] :=
  List.eq_nil_iff_forall_not_mem.2 fun _ hn => hc (h.listed_of_mem hn).1

theorem running_of_inFlight (h : s.Works) (hw : s.cu.wait = none) (hf : (s.entry n).inFlight = true) : s.collector = .running := by
  obtain ⟨p, hp, -⟩ := h.inFlight n hf
  have hstopped := (h.poll _ p hp).1
  have hstopping := h.not_stopping hw
  cases hc : s.collector with
  | running => rfl
  | stopped => exact absurd hc hstopped
  | stopping => exact absurd hc hstopping

end State.Works

/-! ### Steps of the engines alone -/

/-- Engines that go on, with the tables, the lists, the collector and the wait as they were. -/
theorem State.Works.engines (h : s.Works) (he : t.entries = s.entries) (ht : t.targets = s.targets)
    (hw : t.cu.wait = s.cu.wait) (hc : t.collector = s.collector)
    (hseg : ∀ y, (t.seg y).oneShot = (s.seg y).oneShot ∧ (t.seg y).rawPending = (s.seg y).rawPending)
    (hgoes : ∀ y, (s.engine y).goesOn (t.engine y)) : t.Works := by
  have hentry (n : EntryNo) : t.entry n = s.entry n := State.entry_congr he n
  have htarget (k : TargetNo) : t.target k = s.target k := State.target_congr ht k
  have hsegment (n : EntryNo) : t.entrySegment n = s.entrySegment n := by rw [State.entrySegment, hentry, htarget]; rfl
  have hpoll (y : Segment) : (t.engine y).poll = (s.engine y).poll := Engine.poll_congr (hgoes y).1
  have hraw (y : Segment) : (t.engine y).raw = (s.engine y).raw := Engine.raw_congr (hgoes y).1
  have hone (y : Segment) := (hseg y).1
  have hpend (y : Segment) := (hseg y).2
  have hlaw (y : Segment) := (hgoes y).2 (h.engine y)
  exact {
    engine := fun y => (hlaw y).1
    checks := fun y hy => hw.trans (h.checks y ((hlaw y).2.2 hy))
    poll := fun y p hp => by
      have := h.poll y p (hpoll y ▸ hp)
      unfold State.pollBelongs
      rw [hc, hsegment, hentry, htarget]
      exact this
    raw := fun y r hr => by rw [hw]; exact h.raw y r (hraw y ▸ hr)
    pending := fun y hy => by rw [hw]; exact h.pending y (hpend y ▸ hy)
    room := fun y => by rw [hone]; exact h.room y
    nodup := fun y => by rw [hone]; exact h.nodup y
    member := fun y n hn => by rw [hsegment]; exact h.member y n (hone y ▸ hn)
    inFlight := fun n hn => by rw [hsegment, hpoll]; exact h.inFlight n (hentry n ▸ hn)
    listed := fun n hn => by
      have hn' : (s.entry n).due.isSome = true ∨ s.inOneShot n = true := by
        unfold State.inOneShot at hn ⊢
        rwa [hentry, hsegment, hone] at hn
      obtain ⟨hrun, hdef, hsleep⟩ := h.listed n hn'
      obtain ⟨havail, hfault⟩ := (s.sleeps_eq_false_iff _).1 hsleep
      rw [hc, State.sleeps_eq_false_iff, hentry, htarget, hsegment]
      exact ⟨hrun, hdef, havail, fun hf => hfault ((hlaw _).2.1 hf)⟩
    stopping := by rw [hc, hw]; exact h.stopping
    starting := by rw [hc, hw]; exact h.starting
    rawPends := fun r hr => by rw [hpend]; exact h.rawPends r (hw ▸ hr)
    rawHeld := fun r hr => by rw [hraw]; exact h.rawHeld r (hw ▸ hr)
    entryLoad := fun n c hwait => by rw [hc, hentry]; exact h.entryLoad n c (hw ▸ hwait)
    targetLoad := fun k d hwait => by
      have hflight : t.targetInFlight k = s.targetInFlight k := by simp only [State.targetInFlight, hentry]
      rw [hc, hflight, htarget]
      exact h.targetLoad k d (hw ▸ hwait) }

theorem State.Works.same (h : s.Works) (hsame : s.sameTables t) : t.Works := by
  obtain ⟨he, ht, hw, hc, ha, hb⟩ := hsame
  have hwork (y : Segment) : (t.seg y).work = (s.seg y).work := by cases y <;> assumption
  unfold Seg.work at hwork
  simp only [Prod.mk.injEq] at hwork
  refine h.engines he ht hw hc (fun y => (hwork y).2) fun y => ?_
  rw [show t.engine y = s.engine y from (hwork y).1]
  exact Engine.goesOn_refl _

theorem State.Works.engineStep (h : s.Works) {g : Seg → Seg} (hgoes : (s.engine x).goesOn (g (s.seg x)).engine)
    (hlists : (g (s.seg x)).oneShot = (s.seg x).oneShot ∧ (g (s.seg x)).rawPending = (s.seg x).rawPending) :
    (s.modSeg x g).Works := by
  refine h.engines (by simp) (by simp) (by simp) (by simp) (fun y => ?_) fun y => ?_
  · rw [State.seg_modSeg]
    split
    · next hy => subst hy; exact hlists
    · exact ⟨rfl, rfl⟩
  · have hy : (s.modSeg x g).engine y = if y = x then (g (s.seg y)).engine else s.engine y := by
      rw [State.engine, State.seg_modSeg]
      split <;> rfl
    rw [hy]
    split
    · next hyx => subst hyx; exact hgoes
    · exact Engine.goesOn_refl _

/-! ### Steps of the lists and of the targets' health -/

/-- Lists that lose work and entries that become due, with the engines, the collector and the wait as they were. -/
theorem State.Works.tables (h : s.Works) (hw : t.cu.wait = s.cu.wait) (hc : t.collector = s.collector)
    (hengine : ∀ y, t.engine y = s.engine y) (hpend : ∀ y, (t.seg y).rawPending = (s.seg y).rawPending)
    (hentry : ∀ n, (t.entry n).defined = (s.entry n).defined ∧ (t.entry n).d = (s.entry n).d
      ∧ (t.entry n).inFlight = (s.entry n).inFlight)
    (hd : ∀ k, (t.target k).d = (s.target k).d)
    (hpolled : ∀ y p, (s.engine y).poll = some p → (t.target p.target).health ≠ .quarantined
      ∧ ((t.target p.target).health = .probing → p.probe = true))
    (hone : ∀ y, (t.seg y).oneShot.Sublist (s.seg y).oneShot)
    (hlisted : ∀ n, ((t.entry n).due.isSome = true ∨ (n ∈ (t.seg (s.entrySegment n)).oneShot ∧ s.inOneShot n = true)) →
      s.collector = .running ∧ (s.entry n).defined = true ∧ (t.target (s.entry n).d.target).available = true
        ∧ (s.engine (s.entrySegment n)).state ≠ .faulted) : t.Works := by
  have hdef (n : EntryNo) := (hentry n).1
  have hed (n : EntryNo) := (hentry n).2.1
  have hflight (n : EntryNo) := (hentry n).2.2
  have hsegment (n : EntryNo) : t.entrySegment n = s.entrySegment n := by rw [State.entrySegment, hed, hd]; rfl
  exact {
    engine := fun y => by rw [hengine]; exact h.engine y
    checks := fun y hy => by rw [hw]; exact h.checks y (hengine y ▸ hy)
    poll := fun y p hp => by
      rw [hengine] at hp
      obtain ⟨hrun, hy, hdefined, hfl, htgt, hen, -, -⟩ := h.poll y p hp
      unfold State.pollBelongs
      rw [hc, hsegment, hdef, hflight, hed, hd]
      exact ⟨hrun, hy, hdefined, hfl, htgt, hen, hpolled y p hp⟩
    raw := fun y r hr => by rw [hw]; exact h.raw y r (hengine y ▸ hr)
    pending := fun y hy => by rw [hw]; exact h.pending y (hpend y ▸ hy)
    room := fun y => (hone y).length_le.trans (h.room y)
    nodup := fun y => (h.nodup y).sublist (hone y)
    member := fun y n hn => by rw [hsegment]; exact h.member y n ((hone y).mem hn)
    inFlight := fun n hn => by rw [hsegment, hengine]; exact h.inFlight n (hflight n ▸ hn)
    listed := fun n hn => by
      rw [State.inOneShot_iff, hsegment] at hn
      rw [hc, State.sleeps_eq_false_iff, hdef, hed, hsegment, hengine]
      exact hlisted n (hn.imp_right fun hmem => ⟨hmem, State.inOneShot_iff.2 ((hone _).mem hmem)⟩)
    stopping := by rw [hc, hw]; exact h.stopping
    starting := by rw [hc, hw]; exact h.starting
    rawPends := fun r hr => by rw [hpend]; exact h.rawPends r (hw ▸ hr)
    rawHeld := fun r hr => by rw [hengine]; exact h.rawHeld r (hw ▸ hr)
    entryLoad := fun n c hwait => by rw [hc, hflight]; exact h.entryLoad n c (hw ▸ hwait)
    targetLoad := fun k d hwait => by
      have hsame : t.targetInFlight k = s.targetInFlight k := by simp only [State.targetInFlight, hflight, hed]
      rw [hc, hsame, hd]
      exact h.targetLoad k d (hw ▸ hwait) }

/-- What was in a list may be there, with its target as it was. -/
theorem State.Works.stays (h : s.Works) (hn : (s.entry n).due.isSome = true ∨ s.inOneShot n = true) : s.collector = .running
    ∧ (s.entry n).defined = true ∧ (s.target (s.entry n).d.target).available = true
    ∧ (s.engine (s.entrySegment n)).state ≠ .faulted := by
  obtain ⟨hrun, hdef, hsleep⟩ := h.listed n hn
  obtain ⟨havail, hfault⟩ := (s.sleeps_eq_false_iff _).1 hsleep
  exact ⟨hrun, hdef, havail, hfault⟩

/-- A polled target is as the law wants it. -/
theorem State.Works.polled (h : s.Works) {y : Segment} {p : PollWork} (hp : (s.engine y).poll = some p) :
    (s.target p.target).health ≠ .quarantined ∧ ((s.target p.target).health = .probing → p.probe = true) := by
  obtain ⟨-, -, -, -, -, -, hhealth⟩ := h.poll y p hp
  exact hhealth

theorem State.Works.lists (h : s.Works) (x : Segment) : (emptyLists x s).Works := by
  refine h.tables (by simp) (by simp) (fun y => ?_) (fun y => ?_) (fun n => ?_) (fun k => by simp) (fun y p hp => ?_)
    (fun y => ?_) fun n hn => ?_
  · rw [State.engine, emptyLists_seg]; split <;> rfl
  · rw [emptyLists_seg]; split <;> rfl
  · rw [emptyLists_entry]; split <;> exact ⟨rfl, rfl, rfl⟩
  · rw [emptyLists_target]; exact h.polled hp
  · rw [emptyLists_seg]
    split
    · exact List.nil_sublist _
    · exact List.Sublist.refl _
  · rw [emptyLists_target]
    refine h.stays (hn.imp (fun hdue => ?_) And.right)
    rw [emptyLists_entry] at hdue
    split at hdue
    · cases hdue
    · exact hdue

theorem State.Works.tick (h : s.Works) : (s.mapTargets Target.countDown).Works := by
  have hhealth (k : TargetNo) : ((s.mapTargets Target.countDown).target k).health = (s.target k).health := by
    rw [State.target_mapTargets]
    unfold Target.countDown
    split <;> rfl
  have hd (k : TargetNo) : ((s.mapTargets Target.countDown).target k).d = (s.target k).d := by
    rw [State.target_mapTargets, Target.countDown_d]
  refine h.tables (by simp) (by simp) (fun y => by simp [State.engine]) (fun y => by simp) (fun n => by simp) hd
    (fun y p hp => ?_) (fun y => by simp) fun n hn => ?_
  · rw [hhealth]; exact h.polled hp
  · rw [State.entry_mapTargets] at hn
    unfold Target.available
    rw [hhealth, hd]
    exact h.stays (hn.imp_right And.right)

/-- A quarantined target has no work, so that the end of its backoff finds none (R78, R79). -/
theorem State.Works.expiry (h : s.Works) (hq : (s.target k).health = .quarantined) :
    (s.setTarget k { s.target k with health := .probing }).Works := by
  refine h.tables rfl rfl (fun y => by simp [State.engine]) (fun y => by simp) (fun n => by simp) (fun j => ?_)
    (fun y p hp => ?_) (fun y => by simp) fun n hn => ?_
  · rw [State.target_setTarget]
    split
    · next hj => rw [hj]
    · rfl
  · have hpolled := h.polled hp
    rw [State.target_setTarget, if_neg fun hk : p.target = k => hpolled.1 (hk ▸ hq)]
    exact hpolled
  · obtain ⟨hrun, hdef, havail, hfault⟩ := h.stays (hn.imp_right And.right)
    rw [State.target_setTarget, if_neg]
    · exact ⟨hrun, hdef, havail, hfault⟩
    · intro hk
      rw [hk, Target.available, hq] at havail
      simp at havail

theorem State.Works.due (h : s.Works) (hfalls : s.fallsDue n = true) :
    (s.setEntry n ((s.entry n).fallDue (s.sleeps n))).Works := by
  obtain ⟨hrun, hdef, -⟩ := (s.fallsDue_iff n).1 hfalls
  have hfall (b : Bool) : ((s.entry n).fallDue b).defined = (s.entry n).defined ∧ ((s.entry n).fallDue b).d = (s.entry n).d
      ∧ ((s.entry n).fallDue b).inFlight = (s.entry n).inFlight := by
    unfold Entry.fallDue
    dsimp only
    split
    · exact ⟨rfl, rfl, rfl⟩
    · split <;> exact ⟨rfl, rfl, rfl⟩
  refine h.tables rfl rfl (fun y => by simp [State.engine]) (fun y => by simp) (fun m => ?_) (fun k => by simp)
    (fun y p hp => h.polled hp) (fun y => by simp) fun m hm => ?_
  · rw [State.entry_setEntry]
    split
    · next hmn => rw [hmn]; exact hfall _
    · exact ⟨rfl, rfl, rfl⟩
  · rw [State.target_setEntry]
    by_cases hmn : m = n ∧ s.sleeps n = false
    · obtain ⟨rfl, hsleep⟩ := hmn
      exact ⟨hrun, hdef, (s.sleeps_eq_false_iff _).1 hsleep⟩
    · refine h.stays (hm.imp (fun hdue => ?_) And.right)
      rw [State.entry_setEntry] at hdue
      split at hdue
      · next hmn' =>
        rw [hmn']
        cases hsleep : s.sleeps n with
        | false => exact absurd ⟨hmn', hsleep⟩ hmn
        | true => rw [hsleep] at hdue; exact hdue
      · exact hdue

theorem State.Works.attention (h : s.Works) (hc : s.collector = .running) (x : Segment) : (attentionEvent x s).Works := by
  have hengine (y : Segment) : (attentionEvent x s).engine y = s.engine y := by rw [State.engine, attentionEvent_seg]; rfl
  refine h.tables (by simp) (by simp) hengine (fun y => by simp) (fun n => ?_) (fun k => by simp) (fun y p hp => ?_)
    (fun y => by simp) fun n hn => ?_
  · rw [attentionEvent_entry]; split <;> exact ⟨rfl, rfl, rfl⟩
  · rw [attentionEvent_target]; exact h.polled hp
  · rw [attentionEvent_target]
    by_cases hattends : s.attends x n = true
    · obtain ⟨hfault, hdef, -, hx, havail⟩ := (State.attends_iff s n x).1 hattends
      exact ⟨hc, hdef, havail, by rw [hx]; exact hfault⟩
    · refine h.stays (hn.imp (fun hdue => ?_) And.right)
      rwa [attentionEvent_entry, if_neg hattends] at hdue

theorem Target.not_available_of_held {g : Target} : g.holding.available = false := by simp [Target.available, Target.holding]

/-- Entries taken out of the lists, with the target they belong to. -/
theorem State.Works.hold (h : s.Works) (k : TargetNo) : (holdTarget k s).Works := by
  refine h.tables (by rw [holdTarget_frame]) (by rw [holdTarget_frame]) (fun y => ?_) (fun y => ?_) (fun n => ?_)
    (fun j => ?_) (fun y p hp => ?_) (fun y => ?_) fun n hn => ?_
  · rw [State.engine, holdTarget_seg]; split <;> rfl
  · rw [holdTarget_seg]; split <;> rfl
  · rw [holdTarget_entry]; split <;> exact ⟨rfl, rfl, rfl⟩
  · rw [holdTarget_target]
    split
    · next hj => rw [hj]; rfl
    · rfl
  · rw [holdTarget_target]
    split
    · exact ⟨nofun, nofun⟩
    · exact h.polled hp
  · rw [holdTarget_seg]
    split
    · exact List.filter_sublist
    · exact List.Sublist.refl _
  · by_cases hk : (s.entry n).d.target = k
    · exfalso
      rcases hn with hdue | ⟨hmem, -⟩
      · rw [holdTarget_entry, if_pos hk] at hdue; cases hdue
      · rw [holdTarget_seg, if_pos (by rw [← hk]; rfl)] at hmem
        simp [hk] at hmem
    · rw [holdTarget_target, if_neg hk]
      refine h.stays (hn.imp (fun hdue => ?_) And.right)
      rwa [holdTarget_entry, if_neg hk] at hdue

theorem State.Works.release (h : s.Works) (he : (s.target k).d.enabled = true) : (releaseTarget k s).Works := by
  have hentry (n : EntryNo) : (releaseTarget k s).entry n = s.entry n := State.entry_congr (by rw [releaseTarget_frame]) n
  have hseg (y : Segment) : (releaseTarget k s).seg y = s.seg y :=
    State.seg_congr (by rw [releaseTarget_frame]) (by rw [releaseTarget_frame]) y
  refine h.tables (by rw [releaseTarget_frame]) (by rw [releaseTarget_frame]) (fun y => by rw [State.engine, hseg]; rfl)
    (fun y => by rw [hseg]) (fun n => by rw [hentry]; exact ⟨rfl, rfl, rfl⟩) (fun j => ?_) (fun y p hp => ?_)
    (fun y => by rw [hseg]) fun n hn => ?_
  · rw [releaseTarget_target]
    split
    · next hj => rw [hj]; rfl
    · rfl
  · rw [releaseTarget_target]
    split
    · exact ⟨nofun, nofun⟩
    · exact h.polled hp
  · rw [hentry] at hn
    obtain ⟨hrun, hdef, havail, hfault⟩ := h.stays (hn.imp_right And.right)
    refine ⟨hrun, hdef, ?_, hfault⟩
    rw [releaseTarget_target]
    split
    · simp [Target.available, Target.released, he]
    · exact havail

end

end Sys2Proof.Machine
end

section
/-! PROOFS. Steps in which the Command Unit waits for something else, and the loads (R11, R17, R36, R45, R151, R154, R159). -/

namespace Sys2Proof.Machine

section
variable {s t : State} {x : Segment} {n : EntryNo} {k : TargetNo} {d : TargetDef} {c : Option EntryDef} {r : RawParams}

/-! ### The wait alone changes -/

@[simp] theorem State.withWait_wait (w : Option Wait) : (s.withWait w).cu.wait = w := rfl
@[simp] theorem State.withWait_entries (w : Option Wait) : (s.withWait w).entries = s.entries := rfl
@[simp] theorem State.withWait_targets (w : Option Wait) : (s.withWait w).targets = s.targets := rfl
@[simp] theorem State.withWait_collector (w : Option Wait) : (s.withWait w).collector = s.collector := rfl

/-- The unit waits for something else, neither START nor STOP, and for no other raw transfer on a segment; the tables, the
engines and the lists are as they were. -/
theorem State.Works.rewait (h : s.Works) (he : t.entries = s.entries) (ht : t.targets = s.targets)
    (hc : t.collector = s.collector) (hengine : ∀ y, t.engine y = s.engine y)
    (hone : ∀ y, (t.seg y).oneShot = (s.seg y).oneShot)
    (hwait : s.cu.wait ≠ some .start ∧ s.cu.wait ≠ some .stop) (hwait' : t.cu.wait ≠ some .start ∧ t.cu.wait ≠ some .stop)
    (hraw : t.cu.wait.bind Wait.rawOnSegment = s.cu.wait.bind Wait.rawOnSegment)
    (hpending : ∀ y, (t.seg y).rawPending = true ↔ ∃ r, t.cu.wait.bind Wait.rawPending = some r ∧ r.segment = y)
    (hentryLoad : ∀ n c, t.cu.wait = some (.entryLoad n c) → s.collector = .running ∧ (s.entry n).inFlight = true)
    (htargetLoad : ∀ k d, t.cu.wait = some (.targetLoad k d) →
      s.collector = .running ∧ s.targetInFlight k = true ∧ d.segment = (s.target k).d.segment) : t.Works := by
  have hentry (n : EntryNo) : t.entry n = s.entry n := State.entry_congr he n
  have htarget (k : TargetNo) : t.target k = s.target k := State.target_congr ht k
  have hsegment (n : EntryNo) : t.entrySegment n = s.entrySegment n := by rw [State.entrySegment, hentry, htarget]; rfl
  have hnotStopping : s.collector ≠ .stopping := fun hs => hwait.2 (h.stopping.1 hs)
  exact {
    engine := fun y => by rw [hengine]; exact h.engine y
    checks := fun y hy => absurd (hengine y ▸ hy) (h.no_checks hwait.1 y)
    poll := fun y p hp => by
      unfold State.pollBelongs
      rw [hc, hsegment, hentry, htarget]
      exact h.poll y p (hengine y ▸ hp)
    raw := fun y r hr => by rw [hraw]; exact h.raw y r (hengine y ▸ hr)
    pending := fun y => (hpending y).1
    room := fun y => by rw [hone]; exact h.room y
    nodup := fun y => by rw [hone]; exact h.nodup y
    member := fun y n hn => by rw [hsegment]; exact h.member y n (hone y ▸ hn)
    inFlight := fun n hn => by rw [hsegment, hengine]; exact h.inFlight n (hentry n ▸ hn)
    listed := fun n hn => by
      rw [State.inOneShot_iff, hentry, hsegment, hone, ← State.inOneShot_iff] at hn
      rw [hc, t.sleeps_eq_false_iff, hentry, htarget, hsegment, hengine]
      exact h.stays hn
    stopping := by rw [hc]; exact ⟨fun hs => absurd hs hnotStopping, fun hs => absurd hs hwait'.2⟩
    starting := fun hs => absurd hs hwait'.1
    rawPends := fun r hr => (hpending _).2 ⟨r, hr, rfl⟩
    rawHeld := fun r hr => by rw [hengine]; exact h.rawHeld r (hraw ▸ hr)
    entryLoad := fun n c hw => by rw [hc, hentry]; exact hentryLoad n c hw
    targetLoad := fun k d hw => by
      have hsame : t.targetInFlight k = s.targetInFlight k := by simp only [State.targetInFlight, hentry]
      rw [hc, hsame, htarget]
      exact htargetLoad k d hw }

theorem State.Works.pending_iff (h : s.Works) (y : Segment) :
    (s.seg y).rawPending = true ↔ ∃ r, s.cu.wait.bind Wait.rawPending = some r ∧ r.segment = y :=
  ⟨h.pending y, fun ⟨r, hr, hy⟩ => hy ▸ h.rawPends r hr⟩

theorem State.Works.entryDefer (h : s.Works) (hw : s.cu.wait = none) (hf : (s.entry n).inFlight = true) :
    (s.withWait (some (.entryLoad n c))).Works := by
  refine h.rewait rfl rfl rfl (fun y => by simp) (fun y => by simp) (by simp [hw]) (by simp)
    (by rw [hw]; rfl) (fun y => ?_) (fun m c' hm => ?_) (by simp)
  · rw [State.withWait_seg, h.pending_iff, hw]; rfl
  · cases hm
    exact ⟨h.running_of_inFlight hw hf, hf⟩

theorem State.targetInFlight_iff : s.targetInFlight k = true ↔ ∃ n, (s.entry n).inFlight = true ∧ (s.entry n).d.target = k := by
  simp [State.targetInFlight, allEntries]

theorem State.Works.targetDefer (h : s.Works) (hw : s.cu.wait = none)
    (hseg : s.collector = .running → d.segment = (s.target k).d.segment) (hf : s.targetInFlight k = true) :
    (s.withWait (some (.targetLoad k d))).Works := by
  refine h.rewait rfl rfl rfl (fun y => by simp) (fun y => by simp) (by simp [hw]) (by simp)
    (by rw [hw]; rfl) (fun y => ?_) (by simp) (fun j e hj => ?_)
  · rw [State.withWait_seg, h.pending_iff, hw]; rfl
  · cases hj
    obtain ⟨n, hn, -⟩ := State.targetInFlight_iff.1 hf
    have hrun := h.running_of_inFlight hw hn
    exact ⟨hrun, hf, hseg hrun⟩

/-- A pending flag moves nothing else of a segment. -/
theorem State.modSeg_rawPending (y : Segment) (b : Bool) :
    (s.modSeg x fun g => { g with rawPending := b }).engine y = s.engine y
      ∧ ((s.modSeg x fun g => { g with rawPending := b }).seg y).oneShot = (s.seg y).oneShot
      ∧ ((s.modSeg x fun g => { g with rawPending := b }).seg y).rawPending = if y = x then b else (s.seg y).rawPending := by
  rw [State.engine, State.seg_modSeg]
  split <;> exact ⟨rfl, rfl, rfl⟩

theorem State.Works.rawPendsStep (h : s.Works) (hw : s.cu.wait = none) (r : RawParams) :
    ((s.withWait (some (.raw .pending r))).modSeg r.segment fun g => { g with rawPending := true }).Works := by
  have hseg (y : Segment) := (s.withWait (some (.raw .pending r))).modSeg_rawPending (x := r.segment) y true
  set t := (s.withWait (some (.raw .pending r))).modSeg r.segment fun g => { g with rawPending := true } with ht
  have hwait : t.cu.wait = some (.raw .pending r) := by rw [ht, State.modSeg_cu, State.withWait_wait]
  refine h.rewait (by simp [ht]) (by simp [ht]) (by simp [ht]) (fun y => ?_) (fun y => ?_)
    (by simp [hw]) (by simp [hwait]) (by rw [hwait, hw]; rfl) (fun y => ?_) ?_ ?_
  · rw [(hseg y).1, State.withWait_engine]
  · rw [(hseg y).2.1, State.withWait_seg]
  · rw [hwait, (hseg y).2.2, State.withWait_seg]
    by_cases hy : y = r.segment
    · simp [hy, Wait.rawPending]
    · simp [hy, Wait.rawPending, Ne.symm hy, h.no_pending (by rw [hw]; rfl) y]
  · intro n c hn; rw [hwait] at hn; cases hn
  · intro j e hj; rw [hwait] at hj; cases hj

/-- A load is no START, no STOP and no raw transfer. -/
theorem Wait.isLoad.not_other {w : Wait} (h : w.isLoad) :
    w ≠ .start ∧ w ≠ .stop ∧ w.rawOnSegment = none ∧ w.rawPending = none := by
  cases w with
  | entryLoad | targetLoad => exact ⟨nofun, nofun, rfl, rfl⟩
  | start | stop | raw => exact h.elim

theorem State.Works.abortLoad {w : Wait} (h : s.Works) (hw : s.cu.wait = some w) (hload : w.isLoad) :
    (s.withWait none).Works := by
  obtain ⟨hstart, hstop, hraw, hpending⟩ := hload.not_other
  refine h.rewait rfl rfl rfl (fun y => by simp) (fun y => by simp) (by simp [hw, hstart, hstop]) (by simp)
    (by rw [hw]; exact hraw.symm) (fun y => ?_) (by simp) (by simp)
  rw [State.withWait_seg, h.pending_iff, hw]
  simp [hpending]

/-- While a raw transfer pends, the unit waits for it. -/
theorem State.Works.rawPending_wait (h : s.Works) (hx : (s.seg x).rawPending = true) :
    ∃ r, s.cu.wait = some (.raw .pending r) ∧ r.segment = x := by
  obtain ⟨r, hr, hrx⟩ := h.pending x hx
  obtain ⟨w, hw, hwr⟩ := Option.bind_eq_some_iff.1 hr
  refine ⟨r, hw.trans ?_, hrx⟩
  cases w with
  | raw st r' => cases st <;> cases hwr; rfl
  | start | stop | entryLoad | targetLoad => cases hwr

/-- The unit waits for the pending raw transfer, which no longer pends. -/
theorem State.Works.withdraw (h : s.Works)
    (hx : (s.seg x).rawPending = true ∨ ∃ r, s.cu.wait = some (.raw .pending r) ∧ r.segment = x) :
    ((s.modSeg x fun g => { g with rawPending := false }).withWait none).Works := by
  obtain ⟨r, hr, hrx⟩ := hx.elim h.rawPending_wait id
  have hseg (y : Segment) := s.modSeg_rawPending (x := x) y false
  refine h.rewait (by simp) (by simp) (by simp) (fun y => ?_) (fun y => ?_) (by simp [hr]) (by simp) (by rw [hr]; rfl)
    (fun y => ?_) (by simp) (by simp)
  · rw [State.withWait_engine, (hseg y).1]
  · rw [State.withWait_seg, (hseg y).2.1]
  · rw [State.withWait_seg, (hseg y).2.2]
    by_cases hy : y = x
    · simp [hy]
    · have hnone : (s.seg y).rawPending = false := by
        rw [← Bool.not_eq_true, h.pending_iff, hr]
        rintro ⟨r', hr', hy'⟩
        cases hr'
        exact hy (hy'.symm.trans hrx)
      simp [hy, hnone]

theorem State.Works.abortRaw (h : s.Works) (hw : s.cu.wait = some (.raw .onSegment r)) :
    (s.withWait (some (.raw .aborted r))).Works := by
  refine h.rewait rfl rfl rfl (fun y => by simp) (fun y => by simp) (by simp [hw]) (by simp) (by rw [hw]; rfl) (fun y => ?_)
    (by simp) (by simp)
  rw [State.withWait_seg, h.pending_iff, hw]
  rfl

/-! ### Requests and loads, while the unit waits for nothing -/

/-- The tables and the lists change while the unit waits for nothing. -/
theorem State.Works.reload (h : s.Works) (hw : s.cu.wait = none) (hw' : t.cu.wait = none) (hc : t.collector = s.collector)
    (hengine : ∀ y, t.engine y = s.engine y) (hpend : ∀ y, (t.seg y).rawPending = (s.seg y).rawPending)
    (hpoll : ∀ y p, (s.engine y).poll = some p → t.pollBelongs y p)
    (hroom : ∀ y, (t.seg y).oneShot.length ≤ Config.oneShotMax) (hnodup : ∀ y, (t.seg y).oneShot.Nodup)
    (hmember : ∀ y, ∀ n ∈ (t.seg y).oneShot, t.entrySegment n = y)
    (hflight : ∀ n, (t.entry n).inFlight = true → (s.entry n).inFlight = true ∧ t.entrySegment n = s.entrySegment n)
    (hlisted : ∀ n, ((t.entry n).due.isSome = true ∨ n ∈ (t.seg (t.entrySegment n)).oneShot) →
      s.collector = .running ∧ (t.entry n).defined = true ∧ (t.target (t.entry n).d.target).available = true
        ∧ (s.engine (t.entrySegment n)).state ≠ .faulted) : t.Works :=
  { engine := fun y => by rw [hengine]; exact h.engine y
    checks := fun y hy => absurd (hengine y ▸ hy) (h.no_checks (by simp [hw]) y)
    poll := fun y p hp => hpoll y p (hengine y ▸ hp)
    raw := fun y r hr => by rw [hw', ← hw]; exact h.raw y r (hengine y ▸ hr)
    pending := fun y hy => by rw [hw', ← hw]; exact h.pending y (hpend y ▸ hy)
    room := hroom
    nodup := hnodup
    member := hmember
    inFlight := fun n hn => by
      obtain ⟨hf, hsegment⟩ := hflight n hn
      rw [hsegment, hengine]
      exact h.inFlight n hf
    listed := fun n hn => by
      rw [State.inOneShot_iff] at hn
      rw [hc, t.sleeps_eq_false_iff, hengine]
      exact hlisted n hn
    stopping := by rw [hc, hw', ← hw]; exact h.stopping
    starting := fun hs => by rw [hw'] at hs; cases hs
    rawPends := fun r hr => by rw [hw'] at hr; cases hr
    rawHeld := fun r hr => by rw [hw'] at hr; cases hr
    entryLoad := fun n c hs => by rw [hw'] at hs; cases hs
    targetLoad := fun k d hs => by rw [hw'] at hs; cases hs }

theorem State.Works.request (h : s.Works) (hw : s.cu.wait = none) (haccepted : s.pollRefused n = false)
    (hroom : (s.seg (s.entrySegment n)).oneShot.length < Config.oneShotMax)
    (hnew : n ∉ (s.seg (s.entrySegment n)).oneShot) :
    (s.modSeg (s.entrySegment n) fun g => { g with oneShot := g.oneShot ++ [n] }).Works := by
  set t := s.modSeg (s.entrySegment n) fun g => { g with oneShot := g.oneShot ++ [n] } with ht
  have hone (y : Segment) : (t.seg y).oneShot = if y = s.entrySegment n then (s.seg y).oneShot ++ [n] else (s.seg y).oneShot := by
    rw [ht, State.seg_modSeg]; split <;> rfl
  have hentry (m : EntryNo) : t.entry m = s.entry m := by rw [ht, State.entry_modSeg]
  have htarget (j : TargetNo) : t.target j = s.target j := by rw [ht, State.target_modSeg]
  have hsegment (m : EntryNo) : t.entrySegment m = s.entrySegment m := by rw [State.entrySegment, hentry, htarget]; rfl
  have haccept : s.collector = .running ∧ (s.entry n).defined = true ∧ s.sleeps n = false := by
    unfold State.pollRefused at haccepted
    simpa [and_assoc] using haccepted
  refine h.reload hw (by rw [ht, State.modSeg_cu, hw]) (by rw [ht, State.modSeg_collector]) (fun y => ?_) (fun y => ?_)
    (fun y p hp => ?_) (fun y => ?_) (fun y => ?_) (fun y m hm => ?_) (fun m hm => ⟨hentry m ▸ hm, hsegment m⟩) fun m hm => ?_
  · rw [State.engine, ht, State.seg_modSeg]; split <;> rfl
  · rw [ht, State.seg_modSeg]; split <;> rfl
  · unfold State.pollBelongs
    rw [hsegment, hentry, htarget, ht, State.modSeg_collector]
    exact h.poll y p hp
  · rw [hone]
    split
    · next hy => rw [hy, List.length_append]; exact hroom
    · exact h.room y
  · rw [hone]
    split
    · next hy => rw [hy]; exact List.nodup_append.2 ⟨h.nodup _, List.nodup_singleton n, by
        intro a ha b hb hab
        rw [List.mem_singleton.1 hb] at hab
        exact hnew (hab ▸ ha)⟩
    · exact h.nodup y
  · rw [hsegment]
    rw [hone] at hm
    split at hm
    · next hy =>
      rcases List.mem_append.1 hm with hm | hm
      · exact h.member y m hm
      · rw [List.mem_singleton.1 hm, hy]
    · exact h.member y m hm
  · rw [hentry, hsegment, hone] at hm
    rw [hentry, htarget, hsegment]
    by_cases hmn : m = n
    · subst hmn
      obtain ⟨hrun, hdef, hsleep⟩ := haccept
      exact ⟨hrun, hdef, (s.sleeps_eq_false_iff m).1 hsleep⟩
    · refine h.stays (hm.imp_right fun hmem => State.inOneShot_iff.2 ?_)
      split at hmem
      · simpa [hmn] using hmem
      · exact hmem

/-- An entry that is not in flight is loaded (R11). -/
theorem State.Works.entryLoadStep (h : s.Works) (hw : s.cu.wait = none) (hf : (s.entry n).inFlight = false) :
    (applyEntryLoad n c s).Works := by
  set t := applyEntryLoad n c s with ht
  have hentry (m : EntryNo) (hm : m ≠ n) : t.entry m = s.entry m := by rw [ht, applyEntryLoad_entry, if_neg hm]
  have hloaded : (t.entry n).inFlight = false ∧ (t.entry n).due = none := by
    rw [ht, applyEntryLoad_entry, if_pos rfl]; exact ⟨hf, rfl⟩
  have htarget (j : TargetNo) : t.target j = s.target j := by rw [ht, applyEntryLoad_target]
  have hsegment (m : EntryNo) (hm : m ≠ n) : t.entrySegment m = s.entrySegment m := by
    rw [State.entrySegment, hentry m hm, htarget]; rfl
  have hone (y : Segment) : (t.seg y).oneShot.Sublist (s.seg y).oneShot := by
    rw [ht, applyEntryLoad_seg]
    split
    · exact List.filter_sublist
    · exact List.Sublist.refl _
  have hout (y : Segment) : n ∉ (t.seg y).oneShot := by
    intro hn
    rw [ht, applyEntryLoad_seg] at hn
    split at hn
    · simp at hn
    · next hy => exact hy (h.member y n hn).symm
  have hc : t.collector = s.collector := by simp [ht]
  have hne {m : EntryNo} {y : Segment} (hm : m ∈ (t.seg y).oneShot) : m ≠ n := fun hmn => hout y (hmn ▸ hm)
  refine h.reload hw (by simpa [ht] using hw) hc (fun y => ?_) (fun y => ?_) (fun y p hp => ?_)
    (fun y => (hone y).length_le.trans (h.room y)) (fun y => (h.nodup y).sublist (hone y)) (fun y m hm => ?_) (fun m hm => ?_)
    fun m hm => ?_
  · rw [State.engine, ht, applyEntryLoad_seg]; split <;> rfl
  · rw [ht, applyEntryLoad_seg]; split <;> rfl
  · have hbelongs := h.poll y p hp
    have hpn : p.entry ≠ n := by
      rintro hpn
      have := hbelongs.2.2.2.1
      rw [hpn, hf] at this
      cases this
    unfold State.pollBelongs
    rw [hc, hsegment _ hpn, hentry _ hpn, htarget]
    exact hbelongs
  · rw [hsegment m (hne hm)]
    exact h.member y m ((hone y).mem hm)
  · have hmn : m ≠ n := fun hmn => by rw [hmn, hloaded.1] at hm; cases hm
    exact ⟨hentry m hmn ▸ hm, hsegment m hmn⟩
  · have hmn : m ≠ n := by
      rintro rfl
      rcases hm with hm | hm
      · rw [hloaded.2] at hm; cases hm
      · exact hout _ hm
    rw [hentry m hmn, hsegment m hmn] at hm
    rw [hentry m hmn, hsegment m hmn, htarget]
    exact h.stays (hm.imp_right fun hmem => State.inOneShot_iff.2 ((hone _).mem hmem))

/-- A target none of whose entries is in flight is loaded (R17). -/
theorem State.Works.targetLoadStep (h : s.Works) (hw : s.cu.wait = none)
    (hseg : s.collector = .running → d.segment = (s.target k).d.segment) (hf : s.targetInFlight k = false) :
    (applyTargetLoad k d s).Works := by
  set t := applyTargetLoad k d s with ht
  have hc : t.collector = s.collector := by simp [ht]
  have hkept (m : EntryNo) : (t.entry m).defined = (s.entry m).defined ∧ (t.entry m).d = (s.entry m).d
      ∧ (t.entry m).inFlight = (s.entry m).inFlight ∧ ((t.entry m).due.isSome = true → (s.entry m).due.isSome = true
        ∧ (d.enabled = false → (s.entry m).d.target ≠ k)) := by
    rw [ht, applyTargetLoad_entry]
    split
    · exact ⟨rfl, rfl, rfl, nofun⟩
    · next hno => exact ⟨rfl, rfl, rfl, fun hdue => ⟨hdue, fun hd hk => hno ⟨hd, hk⟩⟩⟩
  have htarget (j : TargetNo) : t.target j = if j = k then Target.loaded d else s.target j := by rw [ht, applyTargetLoad_target]
  have hsegment (hrun : s.collector = .running) (m : EntryNo) : t.entrySegment m = s.entrySegment m := by
    rw [State.entrySegment, State.entrySegment, (hkept m).2.1, htarget]
    split
    · next hk => rw [hk]; exact hseg hrun
    · rfl
  have hone (y : Segment) : (t.seg y).oneShot.Sublist (s.seg y).oneShot := by
    rw [ht, applyTargetLoad_seg]
    split
    · exact List.filter_sublist
    · exact List.Sublist.refl _
  have hout {m : EntryNo} {y : Segment} (hm : m ∈ (t.seg y).oneShot) (hd : d.enabled = false) : (s.entry m).d.target ≠ k := by
    intro hk
    have hy := h.member y m ((hone y).mem hm)
    rw [State.entrySegment, hk] at hy
    rw [ht, applyTargetLoad_seg, if_pos ⟨hd, hy.symm⟩] at hm
    simp [hk] at hm
  have hpolled {y : Segment} {p : PollWork} (hp : (s.engine y).poll = some p) : p.target ≠ k := by
    obtain ⟨-, -, -, hflight, htgt, -⟩ := h.poll y p hp
    rintro hk
    rw [← Bool.not_eq_true, State.targetInFlight_iff] at hf
    exact hf ⟨p.entry, hflight, htgt.trans hk⟩
  refine h.reload hw (by simpa [ht] using hw) hc (fun y => ?_) (fun y => ?_) (fun y p hp => ?_)
    (fun y => (hone y).length_le.trans (h.room y)) (fun y => (h.nodup y).sublist (hone y)) (fun y m hm => ?_) (fun m hm => ?_)
    fun m hm => ?_
  · rw [State.engine, ht, applyTargetLoad_seg]; split <;> rfl
  · rw [ht, applyTargetLoad_seg]; split <;> rfl
  · have hbelongs := h.poll y p hp
    have hflight := hbelongs.2.2.2.1
    obtain ⟨hdef, hed, hfl, -⟩ := hkept p.entry
    unfold State.pollBelongs
    rw [hc, hsegment (h.running_of_inFlight hw hflight), hdef, hed, hfl, htarget, if_neg (hpolled hp)]
    exact hbelongs
  · have hold := (hone y).mem hm
    rw [hsegment (h.listed_of_mem hold).1]
    exact h.member y m hold
  · have hflight := (hkept m).2.2.1 ▸ hm
    exact ⟨hflight, hsegment (h.running_of_inFlight hw hflight) m⟩
  · have hwas : (s.entry m).due.isSome = true ∨ s.inOneShot m = true := by
      rcases hm with hdue | hmem
      · exact .inl ((hkept m).2.2.2 hdue).1
      · have hold := (hone _).mem hmem
        refine .inr (State.inOneShot_iff.2 ?_)
        rw [← hsegment (h.listed_of_mem hold).1]
        exact hold
    have hwhere : d.enabled = false → (s.entry m).d.target ≠ k := by
      rcases hm with hdue | hmem
      · exact ((hkept m).2.2.2 hdue).2
      · exact hout hmem
    obtain ⟨hrun, hdef, havail, hfault⟩ := h.stays hwas
    rw [(hkept m).1, (hkept m).2.1, hsegment hrun, htarget]
    refine ⟨hrun, hdef, ?_, hfault⟩
    split
    · next hk =>
      cases hd : d.enabled with
      | true => simp [Target.available, Target.loaded, hd]
      | false => exact absurd hk (hwhere hd)
    · exact havail

end

end Sys2Proof.Machine
end

section
/-! PROOFS. START and STOP, selections and the end of work keep the law of the work in hand (R25 to R28, R42 to R46, R62, R65). -/

namespace Sys2Proof.Machine

section
variable {s t : State} {x : Segment} {n : EntryNo} {c : Cause}

/-! ### START and STOP (R25 to R28) -/

theorem State.starting_entry (n : EntryNo) : s.starting.entry n = s.entry n := State.entry_congr (by simp [State.starting]) n

theorem State.starting_target (k : TargetNo) : s.starting.target k = s.target k :=
  State.target_congr (by simp [State.starting]) k

theorem State.starting_engine (y : Segment) : s.starting.engine y = (s.seg y).latch.busCheck.engine := by
  rw [State.engine, State.starting, beginWait_seg, State.seg_mapSegs, takeCode_seg]

theorem State.starting_lists (y : Segment) : (s.starting.seg y).oneShot = (s.seg y).oneShot
    ∧ (s.starting.seg y).rawPending = (s.seg y).rawPending := by
  rw [State.starting, beginWait_seg, State.seg_mapSegs, takeCode_seg, Seg.busCheck_eq]
  exact ⟨rfl, rfl⟩

/-- The engines of a stopped collector with a unit that waits for nothing are at rest. -/
theorem State.Works.atRest (h : s.Works) (hw : s.cu.wait = none) (hc : s.collector = .stopped) (y : Segment) :
    (s.engine y).work = none ∧ ((s.engine y).state = .idle ∨ (s.engine y).state = .faulted) ∧ (s.engine y).stage = .none := by
  have hnone := State.Works.no_work (h.no_poll hc y) (h.no_raw (by rw [hw]; rfl) y)
  exact ⟨hnone, (h.engine y).checks_of_noWork hnone (h.no_checks (by rw [hw]; nofun) y)⟩

theorem State.Works.starts (h : s.Works) (hw : s.cu.wait = none) (hc : s.collector = .stopped) : s.starting.Works := by
  have hrest := h.atRest hw hc
  have hengine (y : Segment) : (s.starting.engine y).work = none ∧ (s.starting.engine y).law := by
    obtain ⟨hwork, hstate, -⟩ := hrest y
    obtain ⟨-, hretries, -, -⟩ := h.engine y
    rw [State.starting_engine, Seg.busCheck_eq]
    refine ⟨hwork, ?_, hretries, fun hne => absurd hwork hne, fun hstage => ?_⟩
    · cases hlines : (s.seg y).latch.linesHigh with
      | true => exact ⟨hwork, .inl rfl⟩
      | false =>
        change (s.seg y).engine.work = none at hwork
        change (s.seg y).engine.state = .idle ∨ (s.seg y).engine.state = .faulted at hstate
        rcases hstate with hs | hs <;> simp [Seg.withEngine, Seg.latch, hs, hwork]
    · dsimp only [Seg.withEngine] at hstage
      split at hstage <;> cases hstage
  have hpoll (y : Segment) : (s.starting.engine y).poll = none := by unfold Engine.poll; rw [(hengine y).1]
  have hraw (y : Segment) : (s.starting.engine y).raw = none := by unfold Engine.raw; rw [(hengine y).1]
  have hflight (n : EntryNo) : (s.starting.entry n).inFlight = false := by
    rw [State.starting_entry]; exact h.no_inFlight (h.no_poll hc _)
  have hstopped : s.collector ≠ .running := by rw [hc]; nofun
  have hone (y : Segment) : (s.starting.seg y).oneShot = [] := by rw [(State.starting_lists y).1]; exact h.no_request hstopped y
  exact {
    engine := fun y => (hengine y).2
    checks := fun _ _ => rfl
    poll := fun y p hp => by rw [hpoll] at hp; cases hp
    raw := fun y r hr => by rw [hraw] at hr; cases hr
    pending := fun y hy => by rw [(State.starting_lists y).2, h.no_pending (by rw [hw]; rfl)] at hy; cases hy
    room := fun y => by rw [hone]; exact Nat.zero_le _
    nodup := fun y => by rw [hone]; exact List.nodup_nil
    member := fun y n hn => by rw [hone] at hn; cases hn
    inFlight := fun n hn => by rw [hflight] at hn; cases hn
    listed := fun n hn => by
      rw [State.inOneShot_iff, hone, State.starting_entry, h.no_due hstopped] at hn
      simp at hn
    stopping := by
      rw [show s.starting.collector = s.collector from rfl, hc, show s.starting.cu.wait = some .start from rfl]
      simp
    starting := fun _ => hc
    rawPends := fun r hr => by cases hr
    rawHeld := fun r hr => by cases hr
    entryLoad := fun n c hs => by cases hs
    targetLoad := fun k d hs => by cases hs }

theorem enterRunning_wait : (enterRunning s).cu.wait = none := by rw [enterRunning_cu]; rfl

theorem State.prepared_iff : s.prepared = true ↔
    ∀ y, (s.engine y).stage ≠ .busCheck ∧ (s.engine y).state ≠ .clearing := by
  have hseg : s.prepared = true ↔ s.segA.preparing = false ∧ s.segB.preparing = false := by simp [State.prepared]
  have hready (g : Seg) : g.preparing = false ↔ g.engine.stage ≠ .busCheck ∧ g.engine.state ≠ .clearing := by
    simp [Seg.preparing]
  rw [hseg, hready, hready]
  exact ⟨fun ⟨ha, hb⟩ y => by cases y <;> assumption, fun hall => ⟨hall .a, hall .b⟩⟩

theorem State.Works.enters (h : s.Works) (hw : s.cu.wait = some .start) (hp : s.prepared = true) : (enterRunning s).Works := by
  have hc := h.starting hw
  have hstopped : s.collector ≠ .running := by rw [hc]; nofun
  have hengine (y : Segment) : (enterRunning s).engine y = s.engine y := by
    rw [State.engine, enterRunning_seg]; split <;> rfl
  have hlists (y : Segment) : ((enterRunning s).seg y).oneShot = []
      ∧ ((enterRunning s).seg y).rawPending = (s.seg y).rawPending := by
    rw [enterRunning_seg]; split <;> exact ⟨h.no_request hstopped y, rfl⟩
  have hd (k : TargetNo) : ((enterRunning s).target k).d = (s.target k).d := by rw [enterRunning_target, Target.started_d]
  have hentry (n : EntryNo) : ((enterRunning s).entry n).d = (s.entry n).d
      ∧ ((enterRunning s).entry n).defined = (s.entry n).defined
      ∧ ((enterRunning s).entry n).inFlight = (s.entry n).inFlight
      ∧ (((enterRunning s).entry n).due.isSome = true → s.attendsAtStart n) := by
    rw [enterRunning_entry]
    split
    · next hattends =>
      exact ⟨Entry.started_d .., Entry.started_defined .., Entry.started_inFlight .., fun _ => hattends⟩
    · refine ⟨Entry.started_d .., Entry.started_defined .., Entry.started_inFlight .., fun hdue => ?_⟩
      rw [Entry.started_due, h.no_due hstopped] at hdue
      cases hdue
  have hpoll (y : Segment) : ((enterRunning s).engine y).poll = none := by rw [hengine]; exact h.no_poll hc y
  have hraw (y : Segment) : ((enterRunning s).engine y).raw = none := by rw [hengine]; exact h.no_raw (by rw [hw]; rfl) y
  exact {
    engine := fun y => by rw [hengine]; exact h.engine y
    checks := fun y hy => by
      obtain ⟨hstage, hstate⟩ := State.prepared_iff.1 hp y
      rw [hengine] at hy
      exact (hy.elim hstage fun hcl => hstate hcl.1).elim
    poll := fun y p hp => by rw [hpoll] at hp; cases hp
    raw := fun y r hr => by rw [hraw] at hr; cases hr
    pending := fun y hy => by rw [(hlists y).2, h.no_pending (by rw [hw]; rfl)] at hy; cases hy
    room := fun y => by rw [(hlists y).1]; exact Nat.zero_le _
    nodup := fun y => by rw [(hlists y).1]; exact List.nodup_nil
    member := fun y n hn => by rw [(hlists y).1] at hn; cases hn
    inFlight := fun n hn => by
      rw [(hentry n).2.2.1, h.no_inFlight (h.no_poll hc _)] at hn
      cases hn
    listed := fun n hn => by
      rw [State.inOneShot_iff, (hlists _).1] at hn
      obtain ⟨hstart, hdef, -, henabled, hheld⟩ := (hentry n).2.2.2 (hn.resolve_right (List.not_mem_nil))
      have hsegment : (enterRunning s).entrySegment n = s.entrySegment n := by
        rw [State.entrySegment, (hentry n).1, hd]; rfl
      rw [enterRunning_collector, State.sleeps_eq_false_iff, (hentry n).1, (hentry n).2.1, hsegment, hengine,
        enterRunning_target]
      exact ⟨rfl, hdef, (Target.started_available _).2 ⟨henabled, hheld⟩, ((s.startAttends_iff _).1 hstart).1⟩
    stopping := by rw [enterRunning_collector, enterRunning_wait]; exact ⟨nofun, nofun⟩
    starting := fun hs => by rw [enterRunning_wait] at hs; cases hs
    rawPends := fun r hr => by rw [enterRunning_wait] at hr; cases hr
    rawHeld := fun r hr => by rw [enterRunning_wait] at hr; cases hr
    entryLoad := fun n c hs => by rw [enterRunning_wait] at hs; cases hs
    targetLoad := fun k d hs => by rw [enterRunning_wait] at hs; cases hs }

theorem State.Works.stops (h : s.Works) (hw : s.cu.wait = none) : s.stopping.Works := by
  have hengine (y : Segment) : s.stopping.engine y = s.engine y := by rw [State.engine, State.stopping_seg]; rfl
  have hsegment (n : EntryNo) : s.stopping.entrySegment n = s.entrySegment n := by
    rw [State.entrySegment, State.stopping_entry, State.stopping_target]; rfl
  have hone (y : Segment) : (s.stopping.seg y).oneShot = [] := by rw [State.stopping_seg]
  exact {
    engine := fun y => by rw [hengine]; exact h.engine y
    checks := fun y hy => absurd (hengine y ▸ hy) (h.no_checks (by rw [hw]; nofun) y)
    poll := fun y p hp => by
      obtain ⟨-, hbelongs⟩ := h.poll y p (hengine y ▸ hp)
      refine ⟨nofun, ?_⟩
      rw [hsegment, State.stopping_entry, State.stopping_target]
      exact hbelongs
    raw := fun y r hr => by rw [hengine, h.no_raw (by rw [hw]; rfl)] at hr; cases hr
    pending := fun y hy => by
      rw [State.stopping_seg] at hy
      change (s.seg y).rawPending = true at hy
      rw [h.no_pending (by rw [hw]; rfl)] at hy
      cases hy
    room := fun y => by rw [hone]; exact Nat.zero_le _
    nodup := fun y => by rw [hone]; exact List.nodup_nil
    member := fun y n hn => by rw [hone] at hn; cases hn
    inFlight := fun n hn => by
      rw [State.stopping_entry] at hn
      rw [hsegment, hengine]
      exact h.inFlight n hn
    listed := fun n hn => by
      rw [State.inOneShot_iff, hone, State.stopping_entry] at hn
      exact absurd hn (by simp)
    stopping := ⟨fun _ => rfl, fun _ => rfl⟩
    starting := fun hs => by cases hs
    rawPends := fun r hr => by cases hr
    rawHeld := fun r hr => by cases hr
    entryLoad := fun n c hs => by cases hs
    targetLoad := fun k d hs => by cases hs }

theorem Engine.atRest_iff (e : Engine) : e.atRest = true ↔ e.state = .idle ∨ e.state = .faulted := by simp [Engine.atRest]

theorem Engine.law.work_of_atRest {e : Engine} (h : e.law) (hrest : e.atRest = true) : e.work = none := by
  obtain ⟨hstate, -⟩ := h
  rcases (Engine.atRest_iff e).1 hrest with hs | hs <;> rw [hs] at hstate <;> exact hstate.1

theorem State.Works.stopped (h : s.Works) (hc : s.collector = .stopping) (hd : s.drained = true) : (enterStopped s).Works := by
  have hw := h.stopping.1 hc
  have hwait : (enterStopped s).cu.wait = none := by rw [enterStopped_of_stop hw]; rfl
  have hnotRunning : s.collector ≠ .running := by rw [hc]; nofun
  obtain ⟨ha, hb, hflight⟩ := (State.drained_iff s).1 hd
  have hengine (y : Segment) : (enterStopped s).engine y = s.engine y := by rw [State.engine, enterStopped_seg]; rfl
  have hwork (y : Segment) : (s.engine y).work = none := by
    refine (h.engine y).work_of_atRest ?_
    cases y <;> assumption
  have hpoll (y : Segment) : ((enterStopped s).engine y).poll = none := by rw [hengine, Engine.poll, hwork]
  have hraw (y : Segment) : ((enterStopped s).engine y).raw = none := by rw [hengine, Engine.raw, hwork]
  have hone (y : Segment) : ((enterStopped s).seg y).oneShot = [] := by
    rw [enterStopped_seg]; exact h.no_request hnotRunning y
  exact {
    engine := fun y => by rw [hengine]; exact h.engine y
    checks := fun y hy => absurd (hengine y ▸ hy) (h.no_checks (by rw [hw]; nofun) y)
    poll := fun y p hp => by rw [hpoll] at hp; cases hp
    raw := fun y r hr => by rw [hraw] at hr; cases hr
    pending := fun y hy => by rw [enterStopped_seg, h.no_pending (by rw [hw]; rfl)] at hy; cases hy
    room := fun y => by rw [hone]; exact Nat.zero_le _
    nodup := fun y => by rw [hone]; exact List.nodup_nil
    member := fun y n hn => by rw [hone] at hn; cases hn
    inFlight := fun n hn => by rw [enterStopped_entry, hflight] at hn; cases hn
    listed := fun n hn => by
      rw [State.inOneShot_iff, hone, enterStopped_entry, h.no_due hnotRunning] at hn
      simp at hn
    stopping := by rw [enterStopped_collector, hwait]; exact ⟨nofun, nofun⟩
    starting := fun hs => by rw [hwait] at hs; cases hs
    rawPends := fun r hr => by rw [hwait] at hr; cases hr
    rawHeld := fun r hr => by rw [hwait] at hr; cases hr
    entryLoad := fun n c hs => by rw [hwait] at hs; cases hs
    targetLoad := fun k d hs => by rw [hwait] at hs; cases hs }

/-- A soft reset leaves nothing in hand (R20). -/
theorem softReset_works : (softReset s).Works := by
  have hengine (y : Segment) : (softReset s).engine y = Engine.reset := by rw [State.engine, softReset_seg]; rfl
  have hseg (y : Segment) : ((softReset s).seg y).oneShot = [] ∧ ((softReset s).seg y).rawPending = false := by
    rw [softReset_seg]; exact ⟨rfl, rfl⟩
  have hentry (n : EntryNo) : ((softReset s).entry n).inFlight = false ∧ ((softReset s).entry n).due = none := by
    rw [softReset_entry]; exact ⟨rfl, rfl⟩
  have hlaw : Engine.reset.law := State.workLaw_iff.1 State.reset_workLaw |>.engine .a
  exact {
    engine := fun y => by rw [hengine]; exact hlaw
    checks := fun y hy => by
      rw [hengine] at hy
      exact absurd hy (by simp [Engine.checks, Engine.reset])
    poll := fun y p hp => by rw [hengine] at hp; cases hp
    raw := fun y r hr => by rw [hengine] at hr; cases hr
    pending := fun y hy => by rw [(hseg y).2] at hy; cases hy
    room := fun y => by rw [(hseg y).1]; exact Nat.zero_le _
    nodup := fun y => by rw [(hseg y).1]; exact List.nodup_nil
    member := fun y n hn => by rw [(hseg y).1] at hn; cases hn
    inFlight := fun n hn => by rw [(hentry n).1] at hn; cases hn
    listed := fun n hn => by
      rw [State.inOneShot_iff, (hseg _).1, (hentry n).2] at hn
      simp at hn
    stopping := ⟨fun hs => (by cases hs), fun hs => (by cases hs)⟩
    starting := fun hs => by cases hs
    rawPends := fun r hr => by cases hr
    rawHeld := fun r hr => by cases hr
    entryLoad := fun n c hs => by cases hs
    targetLoad := fun k d hs => by cases hs }

/-! ### Selections (R42 to R46) -/

theorem State.free_iff : s.free x = true ↔
    (s.engine x).state = .idle ∧ (s.engine x).stage ≠ .busCheck ∧ ∀ n, s.entrySegment n = x → (s.entry n).inFlight = false := by
  simp only [State.free, State.segInFlight, allEntries, Bool.and_eq_true, beq_iff_eq, bne_iff_ne, ne_eq, Bool.not_eq_true',
    List.any_eq_false, List.mem_finRange, true_implies, not_and, and_assoc]
  refine and_congr_right fun _ => and_congr_right fun _ => forall_congr' fun n => ?_
  exact ⟨fun h hx => Bool.eq_false_iff.2 fun hf => h hf hx, fun h hf hx => by rw [h hx] at hf; cases hf⟩

theorem State.Works.free_noWork (h : s.Works) (hfree : s.free x = true) : (s.engine x).work = none :=
  (h.engine x).work_of_atRest ((Engine.atRest_iff _).2 (.inl (State.free_iff.1 hfree).1))

/-- An engine that takes work is BUSY with it (R46). -/
theorem Seg.takeWork_law (now : Nat) (w : Work) (g : Seg) : (g.takeWork now w).engine.law := by
  rw [Seg.takeWork_eq]
  refine ⟨⟨nofun, ?_⟩, Nat.zero_le _, fun _ => Nat.zero_lt_succ _, fun hstage => ?_⟩
  · dsimp only
    split
    · exact .inr (.inl rfl)
    · exact .inl rfl
  · dsimp only at hstage
    split at hstage <;> cases hstage

theorem Seg.takeWork_not_checks (now : Nat) (w : Work) (g : Seg) : ¬ (g.takeWork now w).engine.checks := by
  rw [Seg.takeWork_eq]
  rintro (hstage | ⟨hstate, -⟩)
  · dsimp only at hstage
    split at hstage <;> cases hstage
  · cases hstate

/-- The best scheduled member is a member. -/
theorem State.bestScheduled_mem {l : List (EntryNo × DueClass)} {b : EntryNo × Long} (h : s.bestScheduled l = some b) :
    (b.1, .scheduled b.2) ∈ l := by
  induction l using List.reverseRecOn generalizing b with
  | nil => cases h
  | append_singleton l m ih =>
    obtain ⟨n, c⟩ := m
    have hstep : s.bestScheduled (l ++ [(n, c)]) = s.bestScheduled l ∨ ∃ j, c = .scheduled j
        ∧ s.bestScheduled (l ++ [(n, c)]) = some (n, j) := by
      unfold State.bestScheduled
      rw [List.foldl_append]
      cases c with
      | attention => exact .inl rfl
      | scheduled j =>
        dsimp only [List.foldl_cons, List.foldl_nil]
        split
        · exact .inr ⟨j, rfl, rfl⟩
        · next best hbest =>
          split
          · exact .inr ⟨j, rfl, rfl⟩
          · exact .inl rfl
    rcases hstep with hsame | ⟨j, rfl, hnew⟩
    · exact List.mem_append_left _ (ih (hsame ▸ h))
    · cases hnew.symm.trans h
      exact List.mem_append_right _ List.mem_cons_self

/-- What an arbiter chooses to poll waits in a list of its segment (R34, R36, R43). -/
theorem State.choose_poll (h : s.Works) (hchoose : s.choose x = some (.poll n c)) :
    s.entrySegment n = x ∧ ((s.entry n).due.isSome = true ∨ s.inOneShot n = true) := by
  have hraw : (s.seg x).rawPending = false := by
    rw [← Bool.not_eq_true]
    intro hp
    rw [s.choose_of_rawPending x hp] at hchoose
    cases hchoose
  have hc : s.collector ≠ .stopped := fun hc => by
    rw [State.choose_of_stopped hraw hc] at hchoose
    cases hchoose
  cases hone : (s.seg x).oneShot with
  | cons m rest =>
    rw [State.choose_of_oneShot m hraw hc hone] at hchoose
    cases hchoose
    have hmem : n ∈ (s.seg x).oneShot := by rw [hone]; exact List.mem_cons_self
    have hx := h.member x n hmem
    exact ⟨hx, .inr (State.inOneShot_iff.2 (by rw [hx]; exact hmem))⟩
  | nil =>
    rw [State.choose_of_noRequest hraw hc hone, Option.or_eq_some_iff] at hchoose
    rcases hchoose with hattn | ⟨-, hsched⟩
    · obtain ⟨m, hm, heq⟩ := Option.map_eq_some_iff.1 hattn
      cases heq
      have hwaits := List.find?_some hm
      rw [State.waitsAttention, decide_eq_true_iff] at hwaits
      exact ⟨hwaits.1, .inl (by rw [hwaits.2]; rfl)⟩
    · obtain ⟨b, hb, heq⟩ := Option.map_eq_some_iff.1 hsched
      cases heq
      obtain ⟨hx, hdue⟩ := (s.mem_dueList x _ _).1 (State.bestScheduled_mem hb)
      exact ⟨hx, .inl (by rw [hdue]; rfl)⟩

theorem State.Works.takesPoll (h : s.Works) (hfree : s.free x = true) (hchoose : s.choose x = some (.poll n c)) :
    (takePoll x n c s).Works := by
  obtain ⟨hx, hwaits⟩ := State.choose_poll h hchoose
  obtain ⟨hrun, hdef, havail, hfault⟩ := h.stays hwaits
  obtain ⟨hidle, hcheck, hnone⟩ := State.free_iff.1 hfree
  have hnoWork := h.free_noWork hfree
  set t := takePoll x n c s with ht
  set g := ((s.seg x).without n).takeWork s.elapsed (.poll (s.pollWork n c)) with hg
  have hseg (y : Segment) : t.seg y = if y = x then g else s.seg y := takePoll_seg s x y n c hx
  have hgengine : g.engine.poll = some (s.pollWork n c) ∧ g.engine.raw = none ∧ g.oneShot.Sublist (s.seg x).oneShot
      ∧ g.rawPending = (s.seg x).rawPending ∧ n ∉ g.oneShot ∧ g.engine.state ≠ .faulted := by
    rw [hg, Seg.takeWork_eq]
    exact ⟨rfl, rfl, List.filter_sublist, rfl, by simp [Seg.without], nofun⟩
  obtain ⟨hgpoll, hgraw, hgone, hgpend, hgout, hgfault⟩ := hgengine
  have hengine (y : Segment) (hy : y ≠ x) : t.engine y = s.engine y := by rw [State.engine, hseg, if_neg hy]; rfl
  have hxengine : t.engine x = g.engine := by rw [State.engine, hseg, if_pos rfl]
  have hentry (m : EntryNo) : (t.entry m).defined = (s.entry m).defined ∧ (t.entry m).d = (s.entry m).d
      ∧ ((t.entry m).inFlight = true ↔ m = n ∨ (s.entry m).inFlight = true)
      ∧ ((t.entry m).due.isSome = true → m ≠ n ∧ (s.entry m).due.isSome = true) := by
    rw [ht, takePoll_entry]
    split
    · next hm => rw [hm]; exact ⟨rfl, rfl, ⟨fun _ => .inl rfl, fun _ => rfl⟩, nofun⟩
    · next hm => exact ⟨rfl, rfl, ⟨.inr, fun hf => hf.resolve_left hm⟩, fun hdue => ⟨hm, hdue⟩⟩
  have htarget (k : TargetNo) : t.target k = s.target k := takePoll_target s x n c k
  have hsegment (m : EntryNo) : t.entrySegment m = s.entrySegment m := by
    rw [State.entrySegment, (hentry m).2.1, htarget]; rfl
  have hone (y : Segment) : (t.seg y).oneShot.Sublist (s.seg y).oneShot := by
    rw [hseg]
    split
    · next hy => rw [hy]; exact hgone
    · exact List.Sublist.refl _
  have hpend (y : Segment) : (t.seg y).rawPending = (s.seg y).rawPending := by
    rw [hseg]
    split
    · next hy => rw [hy]; exact hgpend
    · rfl
  have hwait : t.cu.wait = s.cu.wait := by simp [ht]
  have hc : t.collector = s.collector := by simp [ht]
  have hraw (y : Segment) : (t.engine y).raw = (s.engine y).raw := by
    by_cases hy : y = x
    · rw [hy, hxengine, hgraw, Engine.raw, hnoWork]
    · rw [hengine y hy]
  exact {
    engine := fun y => by
      by_cases hy : y = x
      · rw [hy, hxengine]; exact Seg.takeWork_law ..
      · rw [hengine y hy]; exact h.engine y
    checks := fun y hchecks => by
      by_cases hy : y = x
      · rw [hy, hxengine] at hchecks; exact (Seg.takeWork_not_checks _ _ _ hchecks).elim
      · rw [hwait]; exact h.checks y (hengine y hy ▸ hchecks)
    poll := fun y p hp => by
      by_cases hy : y = x
      · subst hy
        cases (hxengine ▸ hgpoll).symm.trans hp
        obtain ⟨hdef', hd', hflight', -⟩ := hentry n
        refine ⟨by rw [hc, hrun]; nofun, (hsegment n).trans hx, hdef'.trans hdef, hflight'.2 (.inl rfl),
          congrArg EntryDef.target hd', ?_⟩
        rw [htarget]
        simp only [Target.available, Bool.and_eq_true, bne_iff_ne] at havail
        obtain ⟨⟨henabled, hquarantined⟩, -⟩ := havail
        exact ⟨henabled, hquarantined, fun hprobing => beq_iff_eq.2 hprobing⟩
      · obtain ⟨hstopped, hyp, hdefp, hflightp, htgt, hrest⟩ := h.poll y p (hengine y hy ▸ hp)
        obtain ⟨hdef', hd', hflight', -⟩ := hentry p.entry
        refine ⟨by rwa [hc], (hsegment _).trans hyp, hdef'.trans hdefp, hflight'.2 (.inr hflightp),
          (congrArg EntryDef.target hd').trans htgt, ?_⟩
        rw [htarget]
        exact hrest
    raw := fun y r hr => by rw [hwait]; exact h.raw y r (hraw y ▸ hr)
    pending := fun y hy => by rw [hwait]; exact h.pending y (hpend y ▸ hy)
    room := fun y => (hone y).length_le.trans (h.room y)
    nodup := fun y => (h.nodup y).sublist (hone y)
    member := fun y m hm => by rw [hsegment]; exact h.member y m ((hone y).mem hm)
    inFlight := fun m hm => by
      rw [hsegment]
      rcases (hentry m).2.2.1.1 hm with rfl | hm
      · exact ⟨s.pollWork m c, by rw [hx, hxengine]; exact hgpoll, rfl⟩
      · rw [hengine _ fun hy => by rw [hnone m hy] at hm; cases hm]
        exact h.inFlight m hm
    listed := fun m hm => by
      rw [State.inOneShot_iff, hsegment] at hm
      obtain ⟨hrun', hdef', havail', hfault'⟩ := h.stays (n := m) (hm.imp (fun hdue => ((hentry m).2.2.2 hdue).2)
        fun hmem => State.inOneShot_iff.2 ((hone _).mem hmem))
      rw [hc, State.sleeps_eq_false_iff, (hentry m).1, (hentry m).2.1, hsegment, htarget]
      refine ⟨hrun', hdef', havail', ?_⟩
      by_cases hy : s.entrySegment m = x
      · rw [hy, hxengine]; exact hgfault
      · rw [hengine _ hy]; exact hfault'
    stopping := by rw [hc, hwait]; exact h.stopping
    starting := by rw [hc, hwait]; exact h.starting
    rawPends := fun r hr => by rw [hpend]; exact h.rawPends r (hwait ▸ hr)
    rawHeld := fun r hr => by rw [hraw]; exact h.rawHeld r (hwait ▸ hr)
    entryLoad := fun m d hw => by
      obtain ⟨hrun', hflight'⟩ := h.entryLoad m d (hwait ▸ hw)
      exact ⟨hc.trans hrun', (hentry m).2.2.1.2 (.inr hflight')⟩
    targetLoad := fun k d hw => by
      obtain ⟨hrun', hflight', hsame⟩ := h.targetLoad k d (hwait ▸ hw)
      obtain ⟨m, hm, hk⟩ := State.targetInFlight_iff.1 hflight'
      rw [htarget]
      refine ⟨hc.trans hrun', State.targetInFlight_iff.2 ⟨m, (hentry m).2.2.1.2 (.inr hm), ?_⟩, hsame⟩
      rw [(hentry m).2.1]
      exact hk }

theorem State.Works.takesRaw (h : s.Works) (hfree : s.free x = true) (hpending : (s.seg x).rawPending = true) :
    (takeRaw x s).Works := by
  obtain ⟨r, hr, hrx⟩ := h.rawPending_wait hpending
  obtain ⟨hidle, hcheck, hnone⟩ := State.free_iff.1 hfree
  have hnoWork := h.free_noWork hfree
  have hnoRaw := h.no_raw (by rw [hr]; rfl)
  set g := (s.latchRaw (s.seg x)).takeWork s.elapsed (.raw r) with hg
  have hgseg : g.engine.poll = none ∧ g.engine.raw = some r ∧ g.oneShot = (s.seg x).oneShot ∧ g.rawPending = false
      ∧ g.engine.state ≠ .faulted := by
    rw [hg, Seg.takeWork_eq]
    unfold State.latchRaw
    split <;> exact ⟨rfl, rfl, rfl, rfl, nofun⟩
  obtain ⟨hgpoll, hgraw, hgone, hgpend, hgfault⟩ := hgseg
  have hseg (y : Segment) : (takeRaw x s).seg y = if y = x then g else s.seg y := takeRaw_seg y hr
  have hwait : (takeRaw x s).cu.wait = some (.raw .onSegment r) := by rw [takeRaw_eq hr, State.modSeg_cu]
  have hc : (takeRaw x s).collector = s.collector := by simp
  have hentry (m : EntryNo) : (takeRaw x s).entry m = s.entry m := State.entry_congr (by simp) m
  have htarget (k : TargetNo) : (takeRaw x s).target k = s.target k := State.target_congr (by simp) k
  set t := takeRaw x s
  have hengine (y : Segment) (hy : y ≠ x) : t.engine y = s.engine y := by rw [State.engine, hseg, if_neg hy]; rfl
  have hxengine : t.engine x = g.engine := by rw [State.engine, hseg, if_pos rfl]
  have hsegment (m : EntryNo) : t.entrySegment m = s.entrySegment m := by rw [State.entrySegment, hentry, htarget]; rfl
  have hone (y : Segment) : (t.seg y).oneShot = (s.seg y).oneShot := by
    rw [hseg]
    split
    · next hy => rw [hy]; exact hgone
    · rfl
  have hpoll (y : Segment) : (t.engine y).poll = (s.engine y).poll := by
    by_cases hy : y = x
    · rw [hy, hxengine, hgpoll, Engine.poll, hnoWork]
    · rw [hengine y hy]
  have hpend (y : Segment) : (t.seg y).rawPending = false := by
    rw [hseg]
    split
    · exact hgpend
    · next hy =>
      rw [← Bool.not_eq_true, h.pending_iff, hr]
      rintro ⟨r', hr', hy'⟩
      cases hr'
      exact hy (hy'.symm.trans hrx)
  exact {
    engine := fun y => by
      by_cases hy : y = x
      · rw [hy, hxengine]; exact Seg.takeWork_law ..
      · rw [hengine y hy]; exact h.engine y
    checks := fun y hchecks => by
      by_cases hy : y = x
      · rw [hy, hxengine] at hchecks; exact (Seg.takeWork_not_checks _ _ _ hchecks).elim
      · exact absurd (hengine y hy ▸ hchecks) (h.no_checks (by rw [hr]; nofun) y)
    poll := fun y p hp => by
      unfold State.pollBelongs
      rw [hc, hsegment, hentry, htarget]
      exact h.poll y p (hpoll y ▸ hp)
    raw := fun y r' hr' => by
      by_cases hy : y = x
      · subst hy
        cases (hxengine ▸ hgraw).symm.trans hr'
        exact ⟨hrx, by rw [hwait]; rfl⟩
      · rw [hengine y hy, hnoRaw] at hr'; cases hr'
    pending := fun y hy => by rw [hpend] at hy; cases hy
    room := fun y => by rw [hone]; exact h.room y
    nodup := fun y => by rw [hone]; exact h.nodup y
    member := fun y m hm => by rw [hsegment]; exact h.member y m (hone y ▸ hm)
    inFlight := fun m hm => by rw [hsegment, hpoll]; exact h.inFlight m (hentry m ▸ hm)
    listed := fun m hm => by
      rw [State.inOneShot_iff, hsegment, hone, hentry, ← State.inOneShot_iff] at hm
      obtain ⟨hrun, hdef, havail, hfault⟩ := h.stays hm
      rw [hc, State.sleeps_eq_false_iff, hentry, hsegment, htarget]
      refine ⟨hrun, hdef, havail, ?_⟩
      by_cases hy : s.entrySegment m = x
      · rw [hy, hxengine]; exact hgfault
      · rw [hengine _ hy]; exact hfault
    stopping := by
      rw [hc, hwait, h.stopping, hr]
      simp
    starting := fun hs => by rw [hwait] at hs; cases hs
    rawPends := fun r' hr' => by rw [hwait] at hr'; cases hr'
    rawHeld := fun r' hr' => by
      rw [hwait] at hr'
      cases hr'
      rw [hrx, hxengine]
      exact hgraw
    entryLoad := fun m d hw => by rw [hwait] at hw; cases hw
    targetLoad := fun k d hw => by rw [hwait] at hw; cases hw }

end

end Sys2Proof.Machine
end

section
/-! PROOFS. The end of work keeps the law of the work in hand, and with it every step does (R46, R62, R65, R78, R152). -/

namespace Sys2Proof.Machine

section
variable {s t : State} {x : Segment} {p : PollWork} {o : WorkOutcome} {data : List Byte} {st : EngineState} {g : Seg → Seg}

/-! ### An engine that has given up its work -/

/-- An engine with no work, IDLE or FAULTED. -/
def Engine.empty (e : Engine) : Prop :=
  e.work = none ∧ e.stage = .none ∧ (e.state = .idle ∨ e.state = .faulted) ∧ e.retries ≤ 3

theorem Engine.empty.law {e : Engine} (h : e.empty) : e.law := by
  obtain ⟨hwork, hstage, hstate, hretries⟩ := h
  refine ⟨?_, hretries, fun hne => absurd hwork hne, fun hs => by rw [hstage] at hs; cases hs⟩
  rcases hstate with hs | hs <;> rw [hs] <;> exact ⟨hwork, .inl hstage⟩

theorem Engine.empty.not_checks {e : Engine} (h : e.empty) : ¬ e.checks := by
  obtain ⟨-, hstage, hstate, -⟩ := h
  rintro (hs | ⟨hs, -⟩)
  · rw [hstage] at hs; cases hs
  · rw [hs] at hstate; simp at hstate

theorem Engine.empty.poll {e : Engine} (h : e.empty) : e.poll = none := by rw [Engine.poll, h.1]

theorem Engine.empty.raw {e : Engine} (h : e.empty) : e.raw = none := by rw [Engine.raw, h.1]

/-- The engine behind the end of its work: it is empty, and FAULTED only where the lists of its segment are empty. -/
theorem State.endsWork.empty {w : Work} (h : s.endsWork x w st g) (hs : s.Works) {e : Engine} (hwork : e.work = none)
    (hstage : e.stage = .none) (hstate : e.state = st) (hretries : e.retries = (g (s.seg x)).engine.retries) : e.empty := by
  obtain ⟨-, hold, hcount, hst⟩ := h
  obtain ⟨-, -, hlt, -⟩ := hs.engine x
  have hless := hlt (by rw [hold]; nofun)
  refine ⟨hwork, hstage, ?_, by omega⟩
  rw [hstate]
  exact hst.imp_right And.left

/-- Where segment x's work has ended, what waits in its lists does not wait for a FAULTED engine. -/
theorem State.endsWork.not_faulted {w : Work} {n : EntryNo} (h : s.endsWork x w st g)
    (hn : (s.entry n).due.isSome = true ∨ s.inOneShot n = true) (hx : s.entrySegment n = x) : st ≠ .faulted := by
  obtain ⟨-, -, -, hst⟩ := h
  rcases hst with hst | ⟨-, hempty, hdue⟩
  · rw [hst]; nofun
  · rw [State.inOneShot_iff, hx, hempty, hdue n hx] at hn
    simp at hn

/-! ### The poll's target, once judged -/

/-- A target that is judged without a quarantine stays available (R74 to R80). -/
theorem Target.judge_available {j : Target} {probe : Bool} (havail : j.available = true)
    (hq : (j.judge o probe).2 ≠ .quarantined) : (j.judge o probe).1.available = true := by
  have henabled : j.d.enabled = true := by
    rw [Target.available, Bool.and_eq_true, Bool.and_eq_true] at havail
    exact havail.1.1
  have hstays {j' : Target} (hd : j'.d = j.d) (hh : j'.health = .active ∨ j'.health = .suspect ∨ j'.health = .probing) :
      j'.available = true := Target.available_of_health (by rw [hd]; exact henabled) hh
  cases hhealth : j.health with
  | active | suspect =>
    rw [Target.judge_in_use (by simp [hhealth])] at hq ⊢
    unfold Target.fail at hq ⊢
    split_ifs at hq ⊢ with hsuccess hcounted hbelow
    · exact hstays rfl (.inl rfl)
    · exact hstays rfl (.inr (.inl rfl))
    · exact absurd rfl hq
    · exact havail
  | probing =>
    cases probe with
    | false => rw [Target.judge, hhealth]; exact havail
    | true =>
      rw [Target.judge_probing hhealth] at hq ⊢
      split_ifs at hq ⊢ with hsuccess hcounted
      · exact hstays rfl (.inl rfl)
      · exact absurd rfl hq
      · exact havail
  | quarantined => rw [Target.judge_quarantined hhealth]; exact havail
  | held => rw [Target.judge_held hhealth]; exact havail

/-! ### A poll ends (R62, R78) -/

/-- A poll ends with no load deferred behind it. -/
theorem State.Works.pollEnds (h : s.Works) (hend : s.endsWork x (.poll p) st g) (hd : s.deferredBehind p = false) :
    (finishWork x (.poll p) o data st (s.modSeg x g)).Works := by
  obtain ⟨⟨hgone, hgpend, -, -⟩, hwork, -⟩ := id hend
  have hp : (s.engine x).poll = some p := (Engine.poll_eq_some_iff _ p).2 hwork
  obtain ⟨hstopped, hpx, hpdef, hpflight, hptarget, hpenabled, hphealth⟩ := h.poll x p hp
  have hdu : (s.modSeg x g).deferredBehind p = false := (State.deferredBehind_congr (by simp) p).trans hd
  set j := s.judgement p o with hj
  have hjudge : (s.modSeg x g).judgement p o = j := by simp [State.judgement, hj]
  set t := finishWork x (.poll p) o data st (s.modSeg x g) with ht
  have hframe := finishWork_poll_frame (x := x) (o := o) (data := data) st hdu
  have hwait : t.cu.wait = s.cu.wait := by rw [ht, hframe]; simp
  have hc : t.collector = s.collector := by rw [ht, hframe]; simp
  have htarget (k : TargetNo) : t.target k = if k = p.target then j.1 else s.target k := by
    rw [ht, finishWork_poll_target st hdu, hjudge, State.target_modSeg]
  have hjd : j.1.d = (s.target p.target).d := by rw [hj]; exact Target.judge_d ..
  have htd (k : TargetNo) : (t.target k).d = (s.target k).d := by
    rw [htarget]
    split
    · next hk => rw [hk, hjd]
    · rfl
  have hentry (n : EntryNo) : (t.entry n).defined = (s.entry n).defined ∧ (t.entry n).d = (s.entry n).d
      ∧ (t.entry n).inFlight = (if n = p.entry then false else (s.entry n).inFlight)
      ∧ (t.entry n).due = if j.2 = .quarantined ∧ (s.entry n).d.target = p.target then none else (s.entry n).due := by
    obtain ⟨hdef, hed, -⟩ := (s.modSeg x g).keepsPlace_storedEntry p o data n
    rw [State.entry_modSeg] at hdef hed
    rw [ht, finishWork_poll_entry st hdu, hjudge, State.entry_modSeg]
    exact ⟨hdef, hed, rfl, rfl⟩
  have hsegment (n : EntryNo) : t.entrySegment n = s.entrySegment n := by
    rw [State.entrySegment, (hentry n).2.1, htd]; rfl
  have hxseg : (s.modSeg x g).seg x = g (s.seg x) := by rw [State.seg_modSeg, if_pos rfl]
  have hyseg (y : Segment) (hy : y ≠ x) : (s.modSeg x g).seg y = s.seg y := by rw [State.seg_modSeg, if_neg hy]
  have hempty : (t.engine x).empty := by
    refine hend.empty h ?_ ?_ ?_ ?_ <;> rw [State.engine, ht, finishWork_poll_seg st hdu, if_pos rfl]
    rw [State.engine, hxseg]
  have hengine (y : Segment) (hy : y ≠ x) : t.engine y = s.engine y := by
    rw [State.engine, ht, finishWork_poll_seg st hdu, if_neg hy, State.engine, hyseg y hy]
    rfl
  have hpend (y : Segment) : (t.seg y).rawPending = (s.seg y).rawPending := by
    rw [ht, finishWork_poll_seg st hdu]
    by_cases hy : y = x
    · rw [hy, hxseg]; exact hgpend
    · rw [hyseg y hy]
  have holdOne (y : Segment) : ((s.modSeg x g).seg y).oneShot = (s.seg y).oneShot := by
    by_cases hy : y = x
    · rw [hy, hxseg]; exact hgone
    · rw [hyseg y hy]
  have hone (y : Segment) : (t.seg y).oneShot.Sublist (s.seg y).oneShot := by
    rw [ht, finishWork_poll_seg st hdu, ← holdOne]
    dsimp only
    split
    · exact List.filter_sublist
    · exact List.Sublist.refl _
  have hkept {n : EntryNo} {y : Segment} (hn : n ∈ (t.seg y).oneShot) :
      ¬ (j.2 = .quarantined ∧ (s.entry n).d.target = p.target) := by
    rintro ⟨hq, hk⟩
    have hy := h.member y n ((hone y).mem hn)
    rw [State.entrySegment, hk] at hy
    rw [ht, finishWork_poll_seg st hdu, hjudge, State.target_modSeg] at hn
    dsimp only at hn
    rw [if_pos ⟨hq, hy.symm⟩] at hn
    simp [hk] at hn
  have hother {y : Segment} {q : PollWork} (hy : y ≠ x) (hq : (s.engine y).poll = some q) :
      q.entry ≠ p.entry ∧ q.target ≠ p.target := by
    obtain ⟨-, hqy, -, -, hqtarget, -⟩ := h.poll y q hq
    refine ⟨fun he => hy (hqy.symm.trans (he ▸ hpx)), fun hk => hy ?_⟩
    rw [← hqy, ← hpx, State.entrySegment, State.entrySegment, hqtarget, hptarget, hk]
  have hraw (y : Segment) : (t.engine y).raw = (s.engine y).raw := by
    by_cases hy : y = x
    · rw [hy, hempty.raw, Engine.raw, hwork]
    · rw [hengine y hy]
  have hnoStart : s.cu.wait ≠ some .start := fun hw => hstopped (h.starting hw)
  exact {
    engine := fun y => by
      by_cases hy : y = x
      · rw [hy]; exact hempty.law
      · rw [hengine y hy]; exact h.engine y
    checks := fun y hchecks => by
      by_cases hy : y = x
      · rw [hy] at hchecks; exact (hempty.not_checks hchecks).elim
      · exact absurd (hengine y hy ▸ hchecks) (h.no_checks hnoStart y)
    poll := fun y q hq => by
      by_cases hy : y = x
      · rw [hy, hempty.poll] at hq; cases hq
      · rw [hengine y hy] at hq
        obtain ⟨hqe, hqt⟩ := hother hy hq
        unfold State.pollBelongs
        rw [hc, hsegment, (hentry q.entry).1, (hentry q.entry).2.1, (hentry q.entry).2.2.1, if_neg hqe, htarget, if_neg hqt]
        exact h.poll y q hq
    raw := fun y r hr => by rw [hwait]; exact h.raw y r (hraw y ▸ hr)
    pending := fun y hy => by rw [hwait]; exact h.pending y (hpend y ▸ hy)
    room := fun y => (hone y).length_le.trans (h.room y)
    nodup := fun y => (h.nodup y).sublist (hone y)
    member := fun y n hn => by rw [hsegment]; exact h.member y n ((hone y).mem hn)
    inFlight := fun n hn => by
      rw [(hentry n).2.2.1] at hn
      split at hn
      · cases hn
      · next hne =>
        obtain ⟨q, hq, hqn⟩ := h.inFlight n hn
        have hy : s.entrySegment n ≠ x := by
          intro hy
          rw [hy, hp] at hq
          cases hq
          exact hne hqn.symm
        exact ⟨q, by rw [hsegment, hengine _ hy]; exact hq, hqn⟩
    listed := fun n hn => by
      rw [State.inOneShot_iff, hsegment, (hentry n).2.2.2] at hn
      have hwas : ((s.entry n).due.isSome = true ∨ s.inOneShot n = true)
          ∧ ¬ (j.2 = .quarantined ∧ (s.entry n).d.target = p.target) := by
        rcases hn with hdue | hmem
        · split at hdue
          · cases hdue
          · next hno => exact ⟨.inl hdue, hno⟩
        · exact ⟨.inr (State.inOneShot_iff.2 ((hone _).mem hmem)), hkept hmem⟩
      obtain ⟨hrun, hdef, havail, hfault⟩ := h.stays hwas.1
      rw [hc, State.sleeps_eq_false_iff, (hentry n).1, (hentry n).2.1, hsegment, htarget]
      refine ⟨hrun, hdef, ?_, ?_⟩
      · split
        · next hk => exact Target.judge_available (hk ▸ havail) fun hq => hwas.2 ⟨hq, hk⟩
        · exact havail
      · by_cases hy : s.entrySegment n = x
        · have hstate : (t.engine (s.entrySegment n)).state = st := by
            rw [hy, State.engine, ht, finishWork_poll_seg st hdu, if_pos rfl]
          rw [hstate]
          exact hend.not_faulted hwas.1 hy
        · rw [hengine _ hy]; exact hfault
    stopping := by rw [hc, hwait]; exact h.stopping
    starting := by rw [hc, hwait]; exact h.starting
    rawPends := fun r hr => by rw [hpend]; exact h.rawPends r (hwait ▸ hr)
    rawHeld := fun r hr => by rw [hraw]; exact h.rawHeld r (hwait ▸ hr)
    entryLoad := fun n d hw => by
      rw [hwait] at hw
      have hne : n ≠ p.entry := by
        rintro rfl
        rw [← Bool.not_eq_true, State.deferredBehind_iff] at hd
        exact hd ⟨_, hw, rfl⟩
      rw [hc, (hentry n).2.2.1, if_neg hne]
      exact h.entryLoad n d hw
    targetLoad := fun k d hw => by
      rw [hwait] at hw
      have hne : k ≠ p.target := by
        rintro rfl
        rw [← Bool.not_eq_true, State.deferredBehind_iff] at hd
        exact hd ⟨_, hw, rfl⟩
      obtain ⟨hrun, hflight, hsame⟩ := h.targetLoad k d hw
      obtain ⟨n, hn, hk⟩ := State.targetInFlight_iff.1 hflight
      have hnp : n ≠ p.entry := by
        rintro rfl
        exact hne (hk.symm.trans hptarget)
      refine ⟨hc.trans hrun, State.targetInFlight_iff.2 ⟨n, ?_, ?_⟩, by rw [htd]; exact hsame⟩
      · rw [(hentry n).2.2.1, if_neg hnp]; exact hn
      · rw [(hentry n).2.1]; exact hk }

/-! ### A raw transfer ends (R70), and an engine is FAULTED with no work (R65) -/

theorem finishRaw_cases {r r' : RawParams} {stage : RawStage} (hw : s.cu.wait = some (.raw stage r')) :
    ∃ result m, finishRaw r o data s = complete result 0 { s with mem := m } := by
  unfold finishRaw
  rw [hw]
  cases stage with
  | aborted => exact ⟨_, s.mem, rfl⟩
  | pending | onSegment =>
    dsimp only
    split
    · exact ⟨_, _, rfl⟩
    · exact ⟨_, s.mem, rfl⟩

/-- A segment's engine is empty again, and the unit waits for nothing or for no raw transfer; the tables, the lists and the
collector are as they were. -/
theorem State.Works.emptied (h : s.Works) (he : t.entries = s.entries) (ht : t.targets = s.targets)
    (hc : t.collector = s.collector) (hx : (t.engine x).empty) (hnoPoll : (s.engine x).poll = none)
    (hengine : ∀ y, y ≠ x → t.engine y = s.engine y)
    (hseg : ∀ y, (t.seg y).oneShot = (s.seg y).oneShot ∧ (t.seg y).rawPending = (s.seg y).rawPending)
    (hfault : ∀ n, ((s.entry n).due.isSome = true ∨ s.inOneShot n = true) → s.entrySegment n = x →
      (t.engine x).state ≠ .faulted)
    (hwait : (t.cu.wait = s.cu.wait ∧ (s.engine x).raw = none) ∨ (t.cu.wait = none ∧ ∃ r, (s.engine x).raw = some r)) :
    t.Works := by
  have hentry (n : EntryNo) : t.entry n = s.entry n := State.entry_congr he n
  have htarget (k : TargetNo) : t.target k = s.target k := State.target_congr ht k
  have hsegment (n : EntryNo) : t.entrySegment n = s.entrySegment n := by rw [State.entrySegment, hentry, htarget]; rfl
  have hone (y : Segment) := (hseg y).1
  have hpend (y : Segment) := (hseg y).2
  have hpoll (y : Segment) : (t.engine y).poll = (s.engine y).poll := by
    by_cases hy : y = x
    · rw [hy, hx.poll, hnoPoll]
    · rw [hengine y hy]
  have hraw (hkept : t.cu.wait = s.cu.wait ∧ (s.engine x).raw = none) (y : Segment) :
      (t.engine y).raw = (s.engine y).raw := by
    by_cases hy : y = x
    · rw [hy, hx.raw, hkept.2]
    · rw [hengine y hy]
  have hended {r : RawParams} (hr : (s.engine x).raw = some r) : s.cu.wait.bind Wait.rawPending = none
      ∧ s.cu.wait ≠ some .start ∧ s.cu.wait ≠ some .stop ∧ ∀ y, y ≠ x → (s.engine y).raw = none := by
    obtain ⟨hrx, hheld⟩ := h.raw x r hr
    obtain ⟨w, hw, hwr⟩ := Option.bind_eq_some_iff.1 hheld
    have hother (y : Segment) (hy : y ≠ x) : (s.engine y).raw = none := by
      cases hr' : (s.engine y).raw with
      | none => rfl
      | some r' =>
        obtain ⟨hry, hheld'⟩ := h.raw y r' hr'
        rw [hheld] at hheld'
        cases hheld'
        exact absurd (hry.symm.trans hrx) hy
    rw [hw]
    cases w with
    | raw stage r' => cases stage <;> cases hwr <;> exact ⟨rfl, by simp, by simp, hother⟩
    | start | stop | entryLoad | targetLoad => cases hwr
  exact {
    engine := fun y => by
      by_cases hy : y = x
      · rw [hy]; exact hx.law
      · rw [hengine y hy]; exact h.engine y
    checks := fun y hchecks => by
      by_cases hy : y = x
      · rw [hy] at hchecks; exact (hx.not_checks hchecks).elim
      · have hstart := h.checks y (hengine y hy ▸ hchecks)
        rcases hwait with ⟨hkept, -⟩ | ⟨-, r, hr⟩
        · exact hkept.trans hstart
        · exact absurd hstart (hended hr).2.1
    poll := fun y p hp => by
      unfold State.pollBelongs
      rw [hc, hsegment, hentry, htarget]
      exact h.poll y p (hpoll y ▸ hp)
    raw := fun y r hr => by
      rcases hwait with hkept | ⟨-, r', hr'⟩
      · rw [hkept.1]; exact h.raw y r (hraw hkept y ▸ hr)
      · by_cases hy : y = x
        · rw [hy, hx.raw] at hr; cases hr
        · rw [hengine y hy, (hended hr').2.2.2 y hy] at hr; cases hr
    pending := fun y hy => by
      rw [hpend] at hy
      rcases hwait with ⟨hkept, -⟩ | ⟨-, r, hr⟩
      · rw [hkept]; exact h.pending y hy
      · rw [h.no_pending (hended hr).1 y] at hy; cases hy
    room := fun y => by rw [hone]; exact h.room y
    nodup := fun y => by rw [hone]; exact h.nodup y
    member := fun y n hn => by rw [hsegment]; exact h.member y n (hone y ▸ hn)
    inFlight := fun n hn => by rw [hsegment, hpoll]; exact h.inFlight n (hentry n ▸ hn)
    listed := fun n hn => by
      rw [State.inOneShot_iff, hentry, hsegment, hone, ← State.inOneShot_iff] at hn
      obtain ⟨hrun, hdef, havail, hstate⟩ := h.stays hn
      rw [hc, State.sleeps_eq_false_iff, hentry, hsegment, htarget]
      refine ⟨hrun, hdef, havail, ?_⟩
      by_cases hy : s.entrySegment n = x
      · rw [hy]; exact hfault n hn hy
      · rw [hengine _ hy]; exact hstate
    stopping := by
      rw [hc, h.stopping]
      rcases hwait with ⟨hkept, -⟩ | ⟨hnone, r, hr⟩
      · rw [hkept]
      · exact ⟨fun hs => absurd hs (hended hr).2.2.1, fun hs => by rw [hnone] at hs; cases hs⟩
    starting := fun hs => by
      rcases hwait with ⟨hkept, -⟩ | ⟨hnone, -⟩
      · rw [hc]; exact h.starting (hkept ▸ hs)
      · rw [hnone] at hs; cases hs
    rawPends := fun r hr => by
      rcases hwait with ⟨hkept, -⟩ | ⟨hnone, -⟩
      · rw [hpend]; exact h.rawPends r (hkept ▸ hr)
      · rw [hnone] at hr; cases hr
    rawHeld := fun r hr => by
      rcases hwait with hkept | ⟨hnone, -⟩
      · rw [hraw hkept]; exact h.rawHeld r (hkept.1 ▸ hr)
      · rw [hnone] at hr; cases hr
    entryLoad := fun n c hs => by
      rcases hwait with ⟨hkept, -⟩ | ⟨hnone, -⟩
      · rw [hc, hentry]; exact h.entryLoad n c (hkept ▸ hs)
      · rw [hnone] at hs; cases hs
    targetLoad := fun k d hs => by
      have hsame : t.targetInFlight k = s.targetInFlight k := by simp only [State.targetInFlight, hentry]
      rcases hwait with ⟨hkept, -⟩ | ⟨hnone, -⟩
      · rw [hc, hsame, htarget]; exact h.targetLoad k d (hkept ▸ hs)
      · rw [hnone] at hs; cases hs }

/-- An engine that gives up its work with the lines and counts as g leaves them. -/
theorem releaseEngine_modSeg_seg (y : Segment) : (releaseEngine x st (s.modSeg x g)).seg y =
    if y = x then { g (s.seg x) with
      engine := { (g (s.seg x)).engine with state := st, work := none, stage := .none, received := [] } } else s.seg y := by
  rw [releaseEngine_seg, State.seg_modSeg]
  split
  · next hy => rw [hy]
  · rfl

theorem State.Works.rawEnds {r : RawParams} (h : s.Works) (hend : s.endsWork x (.raw r) st g) :
    (finishWork x (.raw r) o data st (s.modSeg x g)).Works := by
  obtain ⟨⟨hgone, hgpend, -, -⟩, hwork, -⟩ := id hend
  have hraw : (s.engine x).raw = some r := (Engine.raw_eq_some_iff _ r).2 hwork
  obtain ⟨w, hw, hwr⟩ := Option.bind_eq_some_iff.1 (h.raw x r hraw).2
  obtain ⟨stage, r', rfl⟩ : ∃ stage r', w = .raw stage r' := by
    cases w with
    | raw stage r' => exact ⟨stage, r', rfl⟩
    | start | stop | entryLoad | targetLoad => cases hwr
  set u := releaseEngine x st (s.modSeg x g) with hu
  have huwait : u.cu.wait = some (.raw stage r') := by simpa [hu] using hw
  obtain ⟨result, m, hfinish⟩ : ∃ result m, finishWork x (.raw r) o data st (s.modSeg x g) = complete result 0 { u with mem := m } :=
    finishRaw_cases huwait
  have hseg (y : Segment) : (complete result 0 { u with mem := m }).seg y = u.seg y := by cases y <;> rfl
  have huseg (y : Segment) := releaseEngine_modSeg_seg (s := s) (x := x) (st := st) (g := g) y
  rw [← hu] at huseg
  rw [hfinish]
  have hxengine : (complete result 0 { u with mem := m }).engine x
      = { (g (s.seg x)).engine with state := st, work := none, stage := .none, received := [] } := by
    rw [State.engine, hseg, huseg, if_pos rfl]
  refine h.emptied (x := x) (by simp [hu]) (by simp [hu]) (by simp [hu]) ?_ ?_ (fun y hy => ?_) (fun y => ?_) (fun n hn hx => ?_)
    (.inr ⟨rfl, r, hraw⟩)
  · rw [hxengine]; exact hend.empty h rfl rfl rfl rfl
  · rw [Engine.poll, hwork]
  · rw [State.engine, hseg, huseg, if_neg hy]; rfl
  · rw [hseg, huseg]
    split
    · next hy => rw [hy]; exact ⟨hgone, hgpend⟩
    · exact ⟨rfl, rfl⟩
  · rw [hxengine]; exact hend.not_faulted hn hx

theorem State.Works.faults (h : s.Works) (hg : (s.seg x).keepsWork (g (s.seg x))) (hwork : (s.engine x).work = none)
    (hretries : (g (s.seg x)).engine.retries = (s.engine x).retries) (hlists : s.listsEmpty x) :
    (releaseEngine x .faulted (s.modSeg x g)).Works := by
  obtain ⟨hgone, hgpend, -, -⟩ := hg
  have hseg (y : Segment) := releaseEngine_modSeg_seg (s := s) (x := x) (st := .faulted) (g := g) y
  have hxengine : (releaseEngine x .faulted (s.modSeg x g)).engine x
      = { (g (s.seg x)).engine with state := .faulted, work := none, stage := .none, received := [] } := by
    rw [State.engine, hseg, if_pos rfl]
  refine h.emptied (x := x) (by simp) (by simp) (by simp) ?_ ?_ (fun y hy => ?_) (fun y => ?_) (fun n hn hx => ?_)
    (.inl ⟨by simp, by rw [Engine.raw, hwork]⟩)
  · rw [hxengine]
    obtain ⟨-, hcount, -, -⟩ := h.engine x
    exact ⟨rfl, rfl, .inr rfl, by dsimp only; omega⟩
  · rw [Engine.poll, hwork]
  · rw [State.engine, hseg, if_neg hy]; rfl
  · rw [hseg]
    split
    · next hy => rw [hy]; exact ⟨hgone, hgpend⟩
    · exact ⟨rfl, rfl⟩
  · rw [State.inOneShot_iff, hx, hlists.1, hlists.2 n hx] at hn
    simp at hn

/-! ### A load is applied behind its poll (R152) -/

theorem Wait.behind.isLoad {v : Wait} (h : v.behind p) : v.isLoad := by
  cases v with
  | entryLoad | targetLoad => trivial
  | start | stop | raw => exact h

/-- A poll ends, and the load deferred behind it is applied. -/
theorem State.Works.pollEndsDeferred {v : Wait} (h : s.Works) (hend : s.endsWork x (.poll p) st g) (hv : s.cu.wait = some v)
    (hbehind : v.behind p) :
    (completeOk (applyDeferred v (finishWork x (.poll p) o data st ((s.withWait none).modSeg x g)))).Works := by
  have hfree := h.abortLoad hv hbehind.isLoad
  have hengine : (s.withWait none).engine x = s.engine x := State.withWait_engine ..
  have hend' : (s.withWait none).endsWork x (.poll p) st g := by
    unfold State.endsWork State.listsEmpty
    rw [hengine, State.withWait_seg]
    exact hend
  have hdu : ((s.withWait none).modSeg x g).deferredBehind p = false := State.deferredBehind_congr (t := (s.withWait none).modSeg x g)
    (s := s.withWait none) (by simp) p
  have hended : (finishWork x (.poll p) o data st ((s.withWait none).modSeg x g)).Works := hfree.pollEnds hend' rfl
  have hframe := finishWork_poll_frame (x := x) (o := o) (data := data) st hdu
  have hentry := finishWork_poll_entry (x := x) (o := o) (data := data) st hdu
  have hseg := finishWork_poll_seg (x := x) (o := o) (data := data) st hdu
  set u := finishWork x (.poll p) o data st ((s.withWait none).modSeg x g) with hu
  have hwait : u.cu.wait = none := by rw [hframe]; simp
  have hc : u.collector = s.collector := by rw [hframe]; simp
  have htd (k : TargetNo) : (u.target k).d = (s.target k).d := by
    rw [hu, finishWork_d o data st fun q _ => State.deferredBehind_congr (t := (s.withWait none).modSeg x g)
      (s := s.withWait none) (by simp) q, State.target_modSeg, State.withWait_target]
  have hloaded : (applyDeferred v u).Works := by
    cases v with
    | start | stop | raw => exact hbehind.elim
    | entryLoad n c =>
      cases hbehind
      exact hended.entryLoadStep hwait (by rw [hentry]; exact if_pos rfl)
    | targetLoad k d =>
      cases hbehind
      refine hended.targetLoadStep hwait (fun _ => ?_) ?_
      · rw [htd]; exact (h.targetLoad _ d hv).2.2
      · rw [← Bool.not_eq_true, State.targetInFlight_iff]
        rintro ⟨m, hm, hk⟩
        obtain ⟨-, hpx, -, -, hptarget, -⟩ := h.poll x p ((Engine.poll_eq_some_iff _ p).2 hend.2.1)
        have hx : u.entrySegment m = x := by
          rw [State.entrySegment, hk, htd, ← hptarget]
          exact hpx
        obtain ⟨q, hq, -⟩ := hended.inFlight m hm
        rw [hx, State.engine, hseg, if_pos rfl] at hq
        cases hq
  refine hloaded.same ⟨rfl, rfl, ?_, rfl, rfl, rfl⟩
  rw [applyDeferred_cu, hwait]
  rfl

/-! ### Every step -/

/-- Every step keeps the law of the work in hand. -/
theorem TableStep.works (h : TableStep s t) (hs : s.Works) : t.Works := by
  cases h with
  | same _ h => exact hs.same h
  | hardReset _ h => exact (State.workLaw_iff.1 State.reset_workLaw).same h
  | softReset => exact softReset_works
  | engine x g h hlists => exact hs.engineStep h hlists
  | lists x => exact hs.lists x
  | starts hw hc => exact hs.starts hw hc
  | enters hw hp => exact hs.enters hw hp
  | stops hw => exact hs.stops hw
  | stopped hc hd => exact hs.stopped hc hd
  | entryLoad n c hw _ hf => exact hs.entryLoadStep hw hf
  | entryDefer n c hw _ hf => exact hs.entryDefer hw hf
  | targetLoad k d hw _ _ hseg hf => exact hs.targetLoadStep hw hseg hf
  | targetDefer k d hw _ _ hseg hf => exact hs.targetDefer hw hseg hf
  | request n hw haccepted hroom hnew => exact hs.request hw haccepted hroom hnew
  | hold k => exact hs.hold k
  | release k _ he => exact hs.release he
  | rawPends r hw => exact hs.rawPendsStep hw r
  | abortLoad w hw hload => exact hs.abortLoad hw hload
  | withdraw x h => exact hs.withdraw h
  | abortRaw r hw => exact hs.abortRaw hw
  | tick => exact hs.tick
  | expiry k hq => exact hs.expiry hq
  | due n h => exact hs.due h
  | attention x hc => exact hs.attention hc x
  | takesPoll x n c hfree hchoose => exact hs.takesPoll hfree hchoose
  | takesRaw x hfree hpending => exact hs.takesRaw hfree hpending
  | ends x w o data st g h hd =>
    cases w with
    | poll p => exact hs.pollEnds h (hd p rfl)
    | raw r => exact hs.rawEnds h
  | endsDeferred x p o data st g v h hv hbehind => exact hs.pollEndsDeferred h hv hbehind
  | faults x g hg hwork hretries hlists => exact hs.faults hg hwork hretries hlists

theorem TableStep.workLaw (h : TableStep s t) (hs : s.workLaw) : t.workLaw :=
  State.workLaw_iff.2 (h.works (State.workLaw_iff.1 hs))

/-- Settles O12. -/
theorem workLawIsKept : Obligations.WorkLawIsKept := fun _ _ hs h =>
  step_keeps_tables (fun _ _ hs => hs) TableStep.workLaw hs h

end

end Sys2Proof.Machine
end

section
/-! PROOFS. The law of the Poll Table (R1, R8, R10, R96, R100, R102). -/

namespace Sys2Proof.Machine

/-! ### One entry -/

/-- The live fields of an entry are in range (R8, R96, R100, R102). -/
def Entry.inRange (e : Entry) : Prop :=
  e.overrun ≤ Config.overrunMax ∧ e.meanHeld < meanCount e.d.meanCode
    ∧ (∀ r ∈ e.run, 1 ≤ r.2 ∧ r.2 < e.d.confirm.toNat ∧ r.1 ≠ e.stable)
    ∧ (e.d.bandEnable = false → e.stable = .normal ∧ e.run = none)

section
variable {e e' : Entry} {d : EntryDef}

theorem meanCount_pos (c : BitVec 2) : 1 < meanCount c := by
  rcases meanCount_mem c with h | h | h | h <;> rw [h] <;> decide

theorem Entry.law_of_defined (hdef : e.defined = true) (hsound : e.d.sound) (h : e.inRange) : e.law := by
  obtain ⟨hoverrun, hmean, hrun, hband⟩ := h
  exact ⟨hoverrun, hmean, hrun, hband, fun _ => hsound, fun hno => by rw [hdef] at hno; cases hno⟩

theorem Entry.law.inRange (h : e.law) : e.inRange := by
  obtain ⟨hoverrun, hmean, hrun, hband, -, -⟩ := h
  exact ⟨hoverrun, hmean, hrun, hband⟩

theorem Entry.law.sound (h : e.law) (hdef : e.defined = true) : e.d.sound := by
  obtain ⟨-, -, -, -, hsound, -⟩ := h
  exact hsound hdef

theorem Entry.law.eq_empty (h : e.law) (hdef : e.defined = false) : e = Entry.empty := by
  obtain ⟨-, -, -, -, -, hempty⟩ := h
  exact hempty hdef

theorem Entry.empty_law : Entry.empty.law := by
  unfold Entry.law EntryDef.sound
  decide

/-- When an entry is due and whether it is in flight are no part of its law, but for an EMPTY entry. -/
theorem Entry.law.placed (h : e.law) (due : Option DueClass) (f : Bool) (hplace : e.defined = false → due = none ∧ f = false) :
    ({ e with due := due, inFlight := f } : Entry).law := by
  by_cases hdef : e.defined = true
  · exact Entry.law_of_defined hdef (h.sound hdef) h.inRange
  · rw [Bool.not_eq_true] at hdef
    obtain ⟨rfl, rfl⟩ := hplace hdef
    rw [h.eq_empty hdef]
    exact Entry.empty_law

theorem Entry.law.not_inFlight (h : e.law) (hdef : e.defined = false) : e.inFlight = false := by rw [h.eq_empty hdef]; rfl

theorem Entry.law.not_due (h : e.law) (hdef : e.defined = false) : e.due = none := by rw [h.eq_empty hdef]; rfl

theorem Entry.law.unlisted (h : e.law) : ({ e with due := none } : Entry).law :=
  h.placed none e.inFlight fun hdef => ⟨rfl, h.not_inFlight hdef⟩

/-- A DEFINED entry whose live state has been reset (R9). -/
theorem Entry.law_of_reset (hdef : e.defined = true) (hsound : e.d.sound) (hoverrun : e.overrun = 0) (hmean : e.meanHeld = 0)
    (hstable : e.stable = .normal) (hrun : e.run = none) : e.law := by
  refine Entry.law_of_defined hdef hsound ⟨by omega, ?_, by rw [hrun]; nofun, fun _ => ⟨hstable, hrun⟩⟩
  have := meanCount_pos e.d.meanCode
  omega

theorem Entry.law.started (h : e.law) (now : Long) : (e.started now).law := by
  unfold Entry.started
  split
  · next hdef => exact Entry.law_of_reset hdef (h.sound hdef) rfl rfl rfl rfl
  · exact h

theorem Entry.law.softReset (h : e.law) : e.softReset.law := by
  cases hdef : e.defined with
  | true => exact Entry.law_of_reset hdef (h.sound hdef) rfl rfl rfl rfl
  | false => rw [h.eq_empty hdef]; exact Entry.empty_law

/-- A due-time event (R30, R31). -/
theorem Entry.law.fallDue (h : e.law) (hdef : e.defined = true) (sleeps : Bool) : (e.fallDue sleeps).law := by
  obtain ⟨-, hmean, hrun, hband⟩ := h.inRange
  unfold Entry.fallDue
  dsimp only
  split
  · exact Entry.law_of_defined hdef (h.sound hdef) h.inRange
  · split
    · exact Entry.law_of_defined hdef (h.sound hdef) ⟨min_le_left .., hmean, hrun, hband⟩
    · exact Entry.law_of_defined hdef (h.sound hdef) h.inRange

/-- An entry that a valid load has replaced, or made EMPTY (R1, R9, R11). -/
theorem State.loadedEntry_law {s : State} {c : Option EntryDef} (hc : ∀ d, c = some d → d.sound) : (s.loadedEntry c).law := by
  cases c with
  | some d => exact Entry.law_of_reset rfl (hc d rfl) rfl rfl rfl rfl
  | none =>
    have hempty : s.loadedEntry none = Entry.empty := by simp [State.loadedEntry, Entry.empty]
    rw [hempty]
    exact Entry.empty_law

/-! ### The Result Stage and the Band Monitor -/

/-- The report mode (R94 to R97). -/
theorem Entry.inRange.report (h : e.inRange) (v : Int) (data : List Byte) : (e.report v data).1.inRange := by
  obtain ⟨hoverrun, hmean, hrun, hband⟩ := h
  have hpos := meanCount_pos e.d.meanCode
  unfold Entry.report
  split
  · exact ⟨hoverrun, hmean, hrun, hband⟩
  · split <;> exact ⟨hoverrun, hmean, hrun, hband⟩
  · dsimp only
    split
    · next hmore => exact ⟨hoverrun, hmore, hrun, hband⟩
    · exact ⟨hoverrun, Nat.zero_lt_of_lt hpos, hrun, hband⟩
  · exact ⟨hoverrun, hmean, hrun, hband⟩

/-- A value never points to the state the entry is in (R101). -/
theorem EntryDef.pointsTo_ne {stable b : Band} {v : Int} (h : d.pointsTo stable v = some b) : b ≠ stable := by
  unfold EntryDef.pointsTo at h
  cases stable <;> dsimp only at h <;> split_ifs at h <;> cases h <;> decide

/-- A run grows by one where it is towards the same state, and otherwise begins anew (R102). -/
theorem nextRun_eq_some {run : Option (Band × Nat)} {target : Option Band} {b : Band} {k : Nat}
    (h : nextRun run target = some (b, k)) : target = some b ∧ (k = 1 ∨ ∃ r ∈ run, k = r.2 + 1) := by
  unfold nextRun at h
  split at h
  · cases h
  · split at h
    · split at h
      · cases h; exact ⟨rfl, .inr ⟨_, rfl, rfl⟩⟩
      · cases h; exact ⟨rfl, .inl rfl⟩
    · cases h; exact ⟨rfl, .inl rfl⟩

theorem Entry.inRange.classify (h : e.inRange) (hsound : e.d.sound) (v : Int) : (e.classify v).1.inRange := by
  obtain ⟨hoverrun, hmean, hrun, hband⟩ := h
  obtain ⟨-, -, -, hlimits⟩ := hsound
  unfold Entry.classify
  split
  · exact ⟨hoverrun, hmean, hrun, hband⟩
  · next hon =>
    have hon : e.d.bandEnable = true := by simpa using hon
    have hoff {P : Prop} (hno : e.d.bandEnable = false) : P := by rw [hon] at hno; cases hno
    have hconfirm : e.d.confirm.toNat ≠ 0 := fun h0 => (hlimits hon).2 (BitVec.eq_of_toNat_eq h0)
    split
    · exact ⟨hoverrun, hmean, nofun, hoff⟩
    · next b k hnext =>
      split
      · exact ⟨hoverrun, hmean, nofun, hoff⟩
      · next hk =>
        obtain ⟨hpoints, hcount⟩ := nextRun_eq_some hnext
        refine ⟨hoverrun, hmean, ?_, hoff⟩
        rintro r ⟨⟩
        have hbound : 1 ≤ k ∧ k ≤ e.d.confirm.toNat := by
          rcases hcount with rfl | ⟨r, hr, rfl⟩
          · omega
          · have := hrun r hr; omega
        exact ⟨hbound.1, by dsimp only; omega, EntryDef.pointsTo_ne hpoints⟩

/-- The Result Stage's part of a completion (R89). -/
theorem Entry.law.process (h : e.law) (hdef : e.defined = true) (p : PollWork) (g : Target) (o : WorkOutcome)
    (data : List Byte) : (e.process p g o data).entry.law := by
  obtain ⟨hdef', hd', -⟩ := e.keepsPlace_process g o p data
  refine Entry.law_of_defined (hdef'.trans hdef) (hd' ▸ h.sound hdef) ?_
  unfold Entry.process
  split
  · obtain ⟨-, hd, -⟩ := e.keepsPlace_report (e.d.value data) data
    have hreported := h.inRange.report (e.d.value data) data
    have hsound : (e.report (e.d.value data) data).1.d.sound := by rw [hd]; exact h.sound hdef
    unfold Entry.succeed
    dsimp only
    refine Entry.inRange.classify ?_ ?_ _ <;> split
    · obtain ⟨-, hmean, hrun, hband⟩ := hreported
      exact ⟨Nat.zero_le _, hmean, hrun, hband⟩
    · exact hreported
    · exact hsound
    · exact hsound
  · obtain ⟨hoverrun, hmean, -, hband⟩ := h.inRange
    unfold Entry.failPoll
    dsimp only
    split
    · next hon => exact ⟨hoverrun, hmean, nofun, fun hoff => by rw [hon] at hoff; cases hoff⟩
    · exact h.inRange

end

/-! ### The end of work -/

section
variable {s t : State} {x : Segment} {p : PollWork} {w : Work} {o : WorkOutcome} {data : List Byte} {st : EngineState}

/-- A poll ends with no load deferred behind it. -/
theorem finishWork_poll_entry_law (hs : ∀ n, (s.entry n).law) (hd : s.deferredBehind p = false)
    (hdef : (s.entry p.entry).defined = true) (n : EntryNo) : ((finishWork x (.poll p) o data st s).entry n).law := by
  obtain ⟨hdef', -⟩ := s.keepsPlace_storedEntry p o data n
  have hstored : (s.storedEntry p o data n).law := by
    unfold State.storedEntry
    split
    · exact (hs p.entry).process hdef ..
    · exact hs n
  rw [finishWork_poll_entry st hd]
  refine hstored.placed _ _ fun hno => ?_
  have hold := hdef'.symm.trans hno
  rw [(hs n).not_due hold, (hs n).not_inFlight hold, ite_self, ite_self]
  exact ⟨rfl, rfl⟩

theorem finishWork_raw_entry (r : RawParams) (n : EntryNo) : (finishWork x (.raw r) o data st s).entry n = s.entry n :=
  (State.entry_congr (finishRaw_entries r _ _ _) n).trans (releaseEngine_entry ..)

theorem applyEntryLoad_entry_law (hs : ∀ n, (s.entry n).law) {m : EntryNo} {c : Option EntryDef}
    (hc : ∀ d, c = some d → d.sound) (hf : (s.entry m).inFlight = false) (n : EntryNo) : ((applyEntryLoad m c s).entry n).law := by
  rw [applyEntryLoad_entry]
  split
  · next hn => rw [hn, hf]; exact State.loadedEntry_law hc
  · exact hs n

theorem applyTargetLoad_entry_law (hs : ∀ n, (s.entry n).law) (k : TargetNo) (d : TargetDef) (n : EntryNo) :
    ((applyTargetLoad k d s).entry n).law := by
  rw [applyTargetLoad_entry]
  split
  · exact (hs n).unlisted
  · exact hs n

/-! ### Every step -/

/-- Every step keeps the law of each entry. -/
theorem TableStep.entries_law (h : TableStep s t) (works : s.Works) (hs : s.entryTableLaw) (n : EntryNo) : (t.entry n).law := by
  obtain ⟨hentry, hcandidate⟩ := hs
  have hsame (hn : t.entry n = s.entry n) : (t.entry n).law := hn ▸ hentry n
  cases h with
  | same _ h => exact hsame (State.entry_congr h.1 n)
  | hardReset _ h => rw [State.entry_congr h.1]; exact State.reset_entryTableLaw.1 n
  | softReset => rw [softReset_entry]; exact (hentry n).softReset
  | lists y =>
    rw [emptyLists_entry]
    split
    · exact (hentry n).unlisted
    · exact hentry n
  | starts => exact hsame (State.starting_entry n)
  | enters =>
    have hstarted := (hentry n).started s.tickCount
    rw [enterRunning_entry]
    split
    · next hattends =>
      refine hstarted.placed _ _ fun hno => ?_
      rw [Entry.started_defined, hattends.2.1] at hno
      cases hno
    · exact hstarted
  | stops => rw [State.stopping_entry]; exact (hentry n).unlisted
  | entryLoad m c _ hc hf => exact applyEntryLoad_entry_law hentry hc hf n
  | targetLoad k d => exact applyTargetLoad_entry_law hentry k d n
  | hold k =>
    rw [holdTarget_entry]
    split
    · exact (hentry n).unlisted
    · exact hentry n
  | due m hdue =>
    rw [State.entry_setEntry]
    split
    · exact (hentry m).fallDue ((s.fallsDue_iff m).1 hdue).2.1 _
    · exact hentry n
  | attention y =>
    rw [attentionEvent_entry]
    split
    · next hattends =>
      obtain ⟨-, hdef, -⟩ := (s.attends_iff n y).1 hattends
      exact (hentry n).placed _ _ fun hno => by rw [hdef] at hno; cases hno
    · exact hentry n
  | takesPoll y m c hfree hchoose =>
    rw [takePoll_entry]
    split
    · next hn =>
      obtain ⟨-, hdef, -⟩ := works.stays (State.choose_poll works hchoose).2
      exact (hentry m).placed _ _ fun hno => by rw [hdef] at hno; cases hno
    · exact hentry n
  | takesRaw y => exact hsame (State.entry_congr (by simp) n)
  | ends y work o data st g h hd =>
    have hentry' (m : EntryNo) : ((s.modSeg y g).entry m).law := by rw [State.entry_modSeg]; exact hentry m
    cases work with
    | raw r => rw [finishWork_raw_entry]; exact hentry' n
    | poll p =>
      obtain ⟨-, -, hdef, -⟩ := works.poll y p ((Engine.poll_eq_some_iff _ p).2 h.2.1)
      exact finishWork_poll_entry_law hentry' ((State.deferredBehind_congr (by simp) p).trans (hd p rfl)) (by simpa using hdef) n
  | endsDeferred y p o data st g v h hv hbehind =>
    obtain ⟨-, -, hdef, -⟩ := works.poll y p ((Engine.poll_eq_some_iff _ p).2 h.2.1)
    have hdu : ((s.withWait none).modSeg y g).deferredBehind p = false := State.deferredBehind_congr (t := (s.withWait none).modSeg y g)
      (s := s.withWait none) (by simp) p
    have hended := finishWork_poll_entry_law (x := y) (o := o) (data := data) (st := st)
      (fun m => by rw [State.entry_modSeg, State.withWait_entry]; exact hentry m) hdu (by simpa using hdef)
    have hlanded : ((finishWork y (.poll p) o data st ((s.withWait none).modSeg y g)).entry p.entry).inFlight = false := by
      rw [finishWork_poll_entry st hdu]
      exact if_pos rfl
    rw [completeOk_entry]
    cases v with
    | entryLoad m c =>
      cases hbehind
      exact applyEntryLoad_entry_law hended (fun d hc => hcandidate _ hv _ d (by rw [hc])) hlanded n
    | targetLoad k d => exact applyTargetLoad_entry_law hended k d n
    | start | stop | raw => exact hbehind.elim
  | stopped => exact hsame (enterStopped_entry ..)
  | faults => exact hsame (by rw [releaseEngine_entry, State.entry_modSeg])
  | release => exact hsame (State.entry_congr (by simp [releaseTarget]) n)
  | _ => exact hsame (by simp)

/-- Every step keeps the law of the Poll Table. -/
theorem TableStep.entryTableLaw (h : TableStep s t) (works : s.Works) (hs : s.entryTableLaw) : t.entryTableLaw := by
  refine ⟨h.entries_law works hs, ?_⟩
  rintro w hw n d rfl
  rcases h.load_waits (w := .entryLoad n (some d)) trivial hw with hold | ⟨m, c, heq, hnew⟩ | ⟨k, d', hno, -⟩
  · exact hs.2 _ hold n d rfl
  · cases heq; exact hnew d rfl
  · cases hno

/-- Settles O10. -/
theorem entryTableLawIsKept : Obligations.EntryTableLawIsKept := fun _ _ hworks hs h =>
  (step_keeps_tables (L := fun u => u.workLaw ∧ u.entryTableLaw) (fun _ _ h => h)
    (fun hstep h => ⟨hstep.workLaw h.1, hstep.entryTableLaw (State.workLaw_iff.1 h.1) h.2⟩) ⟨hworks, hs⟩ h).2

end

end Sys2Proof.Machine
end

section
/-! PROOFS. The law of each target's health fields (R15, R73 to R88). -/

namespace Sys2Proof.Machine

/-! ### One target -/

section
variable {g : Target} {d : TargetDef} {o : WorkOutcome} {probe : Bool}

/-- What TARGET_LOAD demands of the health fields of an enabled target (R16). -/
theorem TargetDef.sound.backoff (h : d.sound) (he : d.enabled = true) :
    1 ≤ d.threshold.toNat ∧ d.baseBackoff.toNat ≤ d.maxBackoff.toNat := by
  unfold TargetDef.sound targetCode at h
  split at h
  · next hoff => rw [he] at hoff; cases hoff
  split at h; · cases h
  split at h; · cases h
  split at h; · cases h
  split at h; · cases h
  next hthreshold _ hmax =>
  refine ⟨Nat.one_le_iff_ne_zero.2 fun h0 => hthreshold (BitVec.eq_of_toNat_eq h0), ?_⟩
  rw [BitVec.lt_def] at hmax
  exact not_lt.1 hmax

/-- A target in ACTIVE with no failures and its first backoff (R17, R84, R86). -/
theorem Target.loaded_law (h : d.sound) : (Target.loaded d).law :=
  ⟨fun _ => ⟨rfl, rfl, rfl⟩, fun he => ⟨le_rfl, (h.backoff he).2⟩, rfl, rfl⟩

theorem Target.started_eq (g : Target) : g.started = g ∨ g.started = Target.loaded g.d := by
  unfold Target.started
  split
  · exact .inr rfl
  · exact .inl rfl

/-- The fields of an enabled target whose backoff lies between its base and its max. -/
theorem Target.law_of_enabled (he : g.d.enabled = true) (hbackoff : g.d.baseBackoff.toNat ≤ g.current ∧ g.current ≤ g.d.maxBackoff.toNat)
    (hhealth : match g.health with
      | .active => g.failures = 0 ∧ g.remaining = 0
      | .suspect => 1 ≤ g.failures ∧ g.failures < g.d.threshold.toNat ∧ g.remaining = 0
      | .quarantined => g.failures = g.d.threshold.toNat ∧ g.remaining ≤ g.current
      | .probing => g.failures = g.d.threshold.toNat ∧ g.remaining = 0
      | .held => g.failures ≤ g.d.threshold.toNat ∧ g.remaining = 0) : g.law :=
  ⟨fun hoff => (by rw [he] at hoff; cases hoff), fun _ => hbackoff, hhealth⟩

theorem Target.law.backoff (h : g.law) (he : g.d.enabled = true) :
    g.d.baseBackoff.toNat ≤ g.current ∧ g.current ≤ g.d.maxBackoff.toNat := h.2.1 he

theorem Target.law.failures_le (h : g.law) : g.failures ≤ g.d.threshold.toNat := by
  obtain ⟨-, -, hhealth⟩ := h
  cases hh : g.health <;> rw [hh] at hhealth <;> dsimp only at hhealth <;> omega

theorem Target.law.holding (h : g.law) (he : g.d.enabled = true) : g.holding.law :=
  Target.law_of_enabled he (h.backoff he) ⟨h.failures_le, rfl⟩

theorem Target.law.countDown (h : g.law) : g.countDown.law := by
  unfold Target.countDown
  split
  · next hq =>
    obtain ⟨hoff, hbackoff, hhealth⟩ := h
    rw [hq] at hhealth
    refine ⟨fun he => absurd ((hoff he).1.symm.trans hq) nofun, hbackoff, ?_⟩
    dsimp only
    rw [hq]
    exact ⟨hhealth.1, (Nat.sub_le ..).trans hhealth.2⟩
  · exact h

/-- A quarantine that has run out (R79). -/
theorem Target.law.expired (h : g.law) (hq : g.health = .quarantined) (hz : g.remaining = 0) :
    ({ g with health := .probing } : Target).law := by
  obtain ⟨hoff, hbackoff, hhealth⟩ := h
  rw [hq] at hhealth
  exact ⟨fun he => absurd ((hoff he).1.symm.trans hq) nofun, hbackoff, hhealth.1, hz⟩

/-- A counted failure of a target in ACTIVE or SUSPECT (R76, R77). -/
theorem Target.law.fail (h : g.law) (hsound : g.d.sound) (he : g.d.enabled = true) (hz : g.remaining = 0) : g.fail.1.law := by
  unfold Target.fail
  split
  · next hbelow => exact Target.law_of_enabled he (h.backoff he) ⟨Nat.le_add_left .., hbelow, hz⟩
  · exact Target.law_of_enabled he ⟨le_rfl, (hsound.backoff he).2⟩ ⟨rfl, le_rfl⟩

/-- The Health Unit's judgement (R74 to R82). -/
theorem Target.law.judge (h : g.law) (hsound : g.d.sound) (he : g.d.enabled = true) : (g.judge o probe).1.law := by
  have hbackoff := h.backoff he
  have hbase := (hsound.backoff he).2
  obtain ⟨-, -, hhealth⟩ := id h
  cases hh : g.health with
  | active | suspect =>
    have hz : g.remaining = 0 := by rw [hh] at hhealth; dsimp only at hhealth; omega
    rw [Target.judge_in_use (by simp [hh])]
    split_ifs
    · exact Target.law_of_enabled he hbackoff ⟨rfl, hz⟩
    · exact h.fail hsound he hz
    · exact h
  | probing =>
    cases probe with
    | false => rw [Target.judge, hh]; exact h
    | true =>
      rw [Target.judge_probing hh]
      split_ifs
      · exact Target.law_of_enabled he ⟨le_rfl, hbase⟩ ⟨rfl, rfl⟩
      · have hdoubled : g.d.baseBackoff.toNat ≤ g.doubled ∧ g.doubled ≤ g.d.maxBackoff.toNat := by
          unfold Target.doubled; omega
        exact Target.law_of_enabled he hdoubled ⟨rfl, le_rfl⟩
      · exact h
  | quarantined => rw [Target.judge_quarantined hh]; exact h
  | held => rw [Target.judge_held hh]; exact h

end

/-! ### Every step -/

section
variable {s t : State} {x : Segment} {p : PollWork} {o : WorkOutcome} {data : List Byte} {st : EngineState}

/-- A poll ends with no load deferred behind it. -/
theorem finishWork_poll_target_law (hs : s.healthLaw) (hd : s.deferredBehind p = false) (hsound : (s.target p.target).d.sound)
    (he : (s.target p.target).d.enabled = true) (k : TargetNo) : ((finishWork x (.poll p) o data st s).target k).law := by
  rw [finishWork_poll_target st hd]
  split
  · exact (hs p.target).judge hsound he
  · exact hs k

theorem applyTargetLoad_target_law (hs : s.healthLaw) {j : TargetNo} {d : TargetDef} (hd : d.sound) (k : TargetNo) :
    ((applyTargetLoad j d s).target k).law := by
  rw [applyTargetLoad_target]
  split
  · exact Target.loaded_law hd
  · exact hs k

/-- Every step keeps the law of each target's health fields. -/
theorem TableStep.healthLaw (h : TableStep s t) (works : s.Works) (htargets : s.targetTableLaw) (hs : s.healthLaw) :
    t.healthLaw := by
  obtain ⟨hsound, -, hcandidate⟩ := htargets
  intro k
  have hsame (hk : t.target k = s.target k) : (t.target k).law := hk ▸ hs k
  cases h with
  | same _ h => exact hsame (State.target_congr h.2.1 k)
  | hardReset _ h => rw [State.target_congr h.2.1]; exact State.reset_healthLaw k
  | softReset => rw [softReset_target]; exact Target.loaded_law (hsound k)
  | starts => exact hsame (State.starting_target k)
  | enters =>
    rw [enterRunning_target]
    rcases (s.target k).started_eq with h | h <;> rw [h]
    · exact hs k
    · exact Target.loaded_law (hsound k)
  | targetLoad j d _ hd => exact applyTargetLoad_target_law hs hd k
  | hold j _ he =>
    rw [holdTarget_target]
    split
    · exact (hs j).holding he
    · exact hs k
  | release j _ he =>
    rw [releaseTarget_target]
    split
    · exact Target.loaded_law (hsound j)
    · exact hs k
  | tick => rw [State.target_mapTargets]; exact (hs k).countDown
  | expiry j hq hz =>
    rw [State.target_setTarget]
    split
    · exact (hs j).expired hq hz
    · exact hs k
  | takesRaw y => exact hsame (State.target_congr (takeRaw_targets y s) k)
  | ends y work o data st g h hd =>
    have hs' : (s.modSeg y g).healthLaw := fun j => by rw [State.target_modSeg]; exact hs j
    cases work with
    | raw r => rw [finishWork_raw_target]; exact hs' k
    | poll p =>
      obtain ⟨-, -, -, -, -, he, -⟩ := works.poll y p ((Engine.poll_eq_some_iff _ p).2 h.2.1)
      exact finishWork_poll_target_law hs' ((State.deferredBehind_congr (by simp) p).trans (hd p rfl))
        (by simpa using hsound p.target) (by simpa using he) k
  | endsDeferred y p o data st g v h hv hbehind =>
    obtain ⟨-, -, -, -, -, he, -⟩ := works.poll y p ((Engine.poll_eq_some_iff _ p).2 h.2.1)
    have hdu : ((s.withWait none).modSeg y g).deferredBehind p = false := State.deferredBehind_congr (t := (s.withWait none).modSeg y g)
      (s := s.withWait none) (by simp) p
    have hended : (finishWork y (.poll p) o data st ((s.withWait none).modSeg y g)).healthLaw :=
      finishWork_poll_target_law (fun j => by rw [State.target_modSeg, State.withWait_target]; exact hs j) hdu
        (by simpa using hsound p.target) (by simpa using he)
    rw [completeOk_target]
    cases v with
    | entryLoad m c => rw [applyDeferred, applyEntryLoad_target]; exact hended k
    | targetLoad j d => exact applyTargetLoad_target_law hended (hcandidate _ hv j d rfl).1 k
    | start | stop | raw => exact hbehind.elim
  | faults => exact hsame (by rw [releaseEngine_target, State.target_modSeg])
  | _ => exact hsame (by simp)

/-- Settles O11. -/
theorem healthLawIsKept : Obligations.HealthLawIsKept := fun _ _ hworks htargets hs h =>
  (step_keeps_tables (L := fun u => u.workLaw ∧ u.targetTableLaw ∧ u.healthLaw) (fun _ _ h => h)
    (fun hstep ⟨hworks, htargets, hs⟩ =>
      ⟨hstep.workLaw hworks, hstep.targetTableLaw htargets, hstep.healthLaw (State.workLaw_iff.1 hworks) htargets hs⟩)
    ⟨hworks, htargets, hs⟩ h).2.2

end

end Sys2Proof.Machine
end
